-- ==== Sys2Proof/Word.lean ====
section
/-! DEFINITION. The words of the engine: bytes, field widths, frames (00_scope.md R7, 10_state.md R14 to R16). -/

namespace Sys2Proof

/-- R7: a byte, an unsigned integer 0..255. -/
abbrev Byte := BitVec 8

/-- A 16-bit field of the reply (R34: `voltage`, `current`). -/
abbrev Half := BitVec 16

/-- A 32-bit field of the reply (R34: `power`, `amphour`, `watthour`). -/
abbrev Wide := BitVec 32

/-- R51: the command word `CW`, 11 bits. -/
abbrev CommandWord := BitVec 11

/-- R14, R30, R39: a whole frame, exactly 32 bytes, byte 0 first (R32). -/
abbrev Frame := {bytes : List Byte // bytes.length = 32}

/-- R37, R38: a received frame, 0 to 32 bytes; a longer one cannot be presented (U14, C5), so the type has none. -/
abbrev RxFrame := {bytes : List Byte // bytes.length ≤ 32}

/-- The frame whose 32 bytes are all 0x00. -/
def Frame.zero : Frame := ⟨List.replicate 32 0, by decide⟩

/-- A frame as its 32 bytes, each given by its index. -/
def Frame.ofFn (f : Nat → Byte) : Frame := ⟨(List.range 32).map f, by simp⟩

end Sys2Proof
end

