-- ==== Sys2Proof/Config.lean ====
section
/-! DEFINITION. What an instance fixes (the record `Config` of 00_scope.md R4, legal values R5), what the outside world
may do during one step, and the free values the spec leaves open. -/

namespace Sys2Proof

/-- R2, R4: the four frame commands `Init`, `En`, `Dis`, `Req`. -/
inductive FrameCmd where
  | init   -- `InitializeSensor`
  | en     -- `EnableRelay`
  | dis    -- `DisableRelay`
  | req    -- `RequestTelemetry`
  deriving DecidableEq, Repr, Inhabited

/-- The four commands, each once. -/
def FrameCmd.all : List FrameCmd := [.init, .en, .dis, .req]

/-- R4 (FIXED): `PREAMBLE`. -/
def preamble : Byte := 0xAA

/-- R4 (FIXED): `GUARD_RT`, the value the guard wants at byte `RT_IDX`. -/
def guardRt : Byte := 0x1c

/-- R4 (FIXED): `GUARD_U1`, the value the guard wants at byte `U1_IDX`. -/
def guardU1 : Byte := 0x01

/-- R4 (FIXED): `RT_IDX`. -/
def rtIdx : Nat := 1

/-- R4 (FIXED): `U1_IDX`. -/
def u1Idx : Nat := 2

/-- R4 (FIXED): `CSUM_OFF[c]`, 4 for init and request frames, 5 for relay frames. -/
def csumOff : FrameCmd → Nat
  | .init => 4
  | .en => 5
  | .dis => 5
  | .req => 4

/-- R4, R55: the constant bytes of one command, `CLASS[c]`, `OPCODE[c]`, `PAYLOAD[c]`. -/
structure Template where
  cls     : Byte
  opcode  : Byte
  payload : List Byte
  deriving DecidableEq, Repr, Inhabited

/-- R4: the OPEN fields of the configuration record (the FIXED ones are the constants above and `tDeadline`). -/
structure ConfigData where
  init        : Template
  en          : Template
  dis         : Template
  req         : Template
  /-- `REQ_ADDR_BIAS` -/
  reqAddrBias : Byte
  addrIdx     : Nat
  vIdx        : Nat
  iIdx        : Nat
  pIdx        : Nat
  ahIdx       : Nat
  whIdx       : Nat
  minReplyLen : Nat
  hasEnergy   : Bool
  tickHz      : Nat
  nowW        : Nat
  tResync     : Nat
  tPace       : Nat
  tRead       : Nat
  tSettle     : Nat
  deriving DecidableEq, Repr, Inhabited

/-- R55: the template of a command. -/
def ConfigData.template (d : ConfigData) : FrameCmd → Template
  | .init => d.init
  | .en => d.en
  | .dis => d.dis
  | .req => d.req

/-- R4 (FIXED): `T_DEADLINE` is 5 seconds. -/
def ConfigData.tDeadline (d : ConfigData) : Nat := 5 * d.tickHz

/-- R5 (a): each checksum offset follows the payload and lies in the frame. -/
abbrev ConfigData.OffsetsOk (d : ConfigData) : Prop :=
  ∀ c ∈ FrameCmd.all, csumOff c = 4 + (d.template c).payload.length ∧ csumOff c < 32

/-- R5 (b): no command's class and opcode are the guard's two bytes. -/
abbrev ConfigData.GuardOk (d : ConfigData) : Prop :=
  ∀ c ∈ FrameCmd.all, ¬ ((d.template c).cls = guardRt ∧ (d.template c).opcode = guardU1)

/-- R5 (c): the four templates are pairwise different. -/
abbrev ConfigData.DistinctOk (d : ConfigData) : Prop :=
  FrameCmd.all.Pairwise fun a b => d.template a ≠ d.template b

/-- R40: the byte ranges (first index, length) of the eight reply fields. -/
def ConfigData.ranges (d : ConfigData) : List (Nat × Nat) :=
  [(rtIdx, 1), (u1Idx, 1), (d.addrIdx, 1), (d.vIdx, 2), (d.iIdx, 2), (d.pIdx, 4), (d.ahIdx, 4), (d.whIdx, 4)]

/-- R5 (d): the reply layout fits and its fields do not overlap. -/
abbrev ConfigData.LayoutOk (d : ConfigData) : Prop :=
  d.addrIdx < d.minReplyLen ∧ d.vIdx + 1 < d.minReplyLen ∧ d.iIdx + 1 < d.minReplyLen ∧ 3 ≤ d.minReplyLen ∧
  d.pIdx + 4 ≤ 32 ∧ d.ahIdx + 4 ≤ 32 ∧ d.whIdx + 4 ≤ 32 ∧
  d.ranges.Pairwise fun a b => a.1 + a.2 ≤ b.1 ∨ b.1 + b.2 ≤ a.1

/-- R5 (e) with the value column of R4: positive tick rate and width, both thresholds below half the timebase's range,
and a resync threshold of one or of two seconds (entry 21). -/
abbrev ConfigData.TimesOk (d : ConfigData) : Prop :=
  0 < d.tickHz ∧ 0 < d.nowW ∧ 0 < d.tResync ∧ (d.tResync = 1 * d.tickHz ∨ d.tResync = 2 * d.tickHz) ∧
  d.tDeadline < 2 ^ (d.nowW - 1) ∧ d.tResync < 2 ^ (d.nowW - 1)

/-- R5 (f). -/
abbrev ConfigData.BiasOk (d : ConfigData) : Prop := d.reqAddrBias = 0x00 ∨ d.reqAddrBias = 0xAF

/-- R5: a configuration is well-formed. -/
abbrev ConfigData.Wf (d : ConfigData) : Prop :=
  d.OffsetsOk ∧ d.GuardOk ∧ d.DistinctOk ∧ d.LayoutOk ∧ d.TimesOk ∧ d.BiasOk

/-- R5, U15: the configuration of an instance. An ill-formed record is refused by the type: no state holds one. -/
abbrev Config := {d : ConfigData // d.Wf}

/-- Every command is in the list of all. -/
theorem FrameCmd.mem_all (c : FrameCmd) : c ∈ FrameCmd.all := by cases c <;> decide

/-- R5 (a): the checksum stands right after the payload. -/
theorem Config.csumOff_eq (cfg : Config) (c : FrameCmd) :
    csumOff c = 4 + (cfg.1.template c).payload.length := (cfg.2.1 c c.mem_all).1

/-- R5 (a): the checksum lies in the frame. -/
theorem csumOff_lt (c : FrameCmd) : csumOff c < 32 := by cases c <;> decide

/-- What the outside world does during one step (R9 (1): free input). Every value is possible. -/
structure Input where
  /-- R180, R181: the reset line; `some took` resets the engine and says whether an access outstanding at
  that moment took effect (U16). -/
  reset    : Option Bool
  /-- R139: ticks that pass beyond the lower bound of what the step does. -/
  delay    : Nat
  /-- R20, R37: frames the link brings into the receive queue before the step's own action, oldest first. -/
  arrivals : List RxFrame
  /-- R121: a command word the host offers at the command port. -/
  command  : Option CommandWord
  /-- R138: `rsp_ready`, the host takes the response. -/
  rspReady : Bool
  /-- U12, R139 (f): the access or wait of this micro-state has not ended yet. -/
  pending  : Bool
  /-- R184: how many frames another user of the transport takes from the receive queue; only between operations. -/
  otherReads  : Nat
  /-- R184: the frames another user hands to the transport, oldest first; only between operations. -/
  otherWrites : List Frame
  deriving DecidableEq, Repr, Inhabited

/-- The input in which nothing happens and no time passes beyond the lower bounds. -/
def Input.quiet : Input :=
  { reset := none, delay := 0, arrivals := [], command := none, rspReady := false, pending := false,
    otherReads := 0, otherWrites := [] }

/-- Free: what the world does in a step for which `State.env.inputs` lists nothing (R9 (1), U17; entry 3). -/
opaque Config.freeInput : Nat → Input

/-- Free: a byte of an unspecified buffer, by draw and index (R15, R22, R23; entries 8, 10). -/
opaque Config.freeByte : Nat → Nat → Byte

/-- Free: an unspecified number, by draw and which (entry 8). -/
opaque Config.freeNat : Nat → Nat → Nat

/-- Free: an unspecified bit, by draw and which (entry 8). -/
opaque Config.freeBit : Nat → Nat → Bool

/-- OPEN, no value in the source (N2): `CLASS[c]` of the instance the machine resets with. -/
opaque Config.openClass : FrameCmd → Byte

/-- OPEN, no value in the source (N2): `OPCODE[c]` of that instance. -/
opaque Config.openOpcode : FrameCmd → Byte

/-- OPEN (N12): whether that instance's resync threshold is two seconds, not one. -/
opaque Config.openResyncTwoSeconds : Bool

/-- OPEN (R6, D17): `HAS_ENERGY` of that instance. -/
opaque Config.openHasEnergy : Bool

/-- OPEN (N9): `T_PACE` of that instance. -/
opaque Config.openPace : Nat

/-- OPEN (N10): `T_READ` of that instance. -/
opaque Config.openRead : Nat

/-- OPEN (N11): `T_SETTLE` of that instance. -/
opaque Config.openSettle : Nat

/-- The record whose class and opcode bytes are given and whose other fields are the defaults of 92_eei_decisions.md
(D6, D9, D11, D14 to D16) where it has one, and the open constants above where it has none (entries 1, 2). -/
def Config.withCodes (cls opcode : FrameCmd → Byte) : ConfigData where
  init := ⟨cls .init, opcode .init, []⟩
  en := ⟨cls .en, opcode .en, [0x00]⟩
  dis := ⟨cls .dis, opcode .dis, [0x00]⟩
  req := ⟨cls .req, opcode .req, []⟩
  reqAddrBias := 0x00
  addrIdx := 3
  vIdx := 4
  iIdx := 6
  pIdx := 8
  ahIdx := 12
  whIdx := 16
  minReplyLen := 8
  hasEnergy := Config.openHasEnergy
  tickHz := 1000
  nowW := 32
  tResync := bif Config.openResyncTwoSeconds then 2 * 1000 else 1 * 1000
  tPace := Config.openPace
  tRead := Config.openRead
  tSettle := Config.openSettle

/-- R5 (b), (c) for the class and opcode bytes of `Config.withCodes`. -/
abbrev Config.CodesOk (cls opcode : FrameCmd → Byte) : Prop :=
  (∀ c ∈ FrameCmd.all, ¬ (cls c = guardRt ∧ opcode c = guardU1)) ∧
  ¬ (cls .en = cls .dis ∧ opcode .en = opcode .dis) ∧ ¬ (cls .init = cls .req ∧ opcode .init = opcode .req)

/-- Legal codes make a legal record. -/
theorem Config.withCodes_wf (cls opcode : FrameCmd → Byte) (h : Config.CodesOk cls opcode) :
    (Config.withCodes cls opcode).Wf := by
  obtain ⟨hg, hr, hi⟩ := h
  refine ⟨?_, ?_, ?_, ?_, ?_, Or.inl rfl⟩
  · intro c _
    cases c <;> simp [csumOff, ConfigData.template, Config.withCodes]
  · intro c hc
    cases c <;> exact hg _ hc
  · simp [ConfigData.DistinctOk, FrameCmd.all, ConfigData.template, Config.withCodes]
    exact ⟨fun a b => hi ⟨a, b⟩, fun a b => hr ⟨a, b⟩⟩
  · simp [ConfigData.LayoutOk, ConfigData.ranges, Config.withCodes, rtIdx, u1Idx]
  · cases h : Config.openResyncTwoSeconds <;>
      simp [ConfigData.TimesOk, ConfigData.tDeadline, Config.withCodes, h]

/-- Four codes that are legal, for an instance whose open codes are not: an ill-formed record is refused (R5), so the
open codes count only where they are legal (entry 1). -/
def Config.anyOpcode : FrameCmd → Byte
  | .init => 0
  | .en => 1
  | .dis => 2
  | .req => 3

/-- The legal class and opcode bytes of the instance the machine resets with: the open ones. -/
def Config.deployedCodes : {p : (FrameCmd → Byte) × (FrameCmd → Byte) // Config.CodesOk p.1 p.2} :=
  if h : Config.CodesOk Config.openClass Config.openOpcode then ⟨(Config.openClass, Config.openOpcode), h⟩
  else ⟨(fun _ => 0, Config.anyOpcode), by decide⟩

/-- The configuration of the machine at `State.reset`: any legal class and opcode bytes, HAS_ENERGY, resync threshold,
pace, read and settle times, unknown to every proof, and the spec's defaults for the rest (entries 1, 2). -/
def Config.deployed : Config :=
  ⟨Config.withCodes Config.deployedCodes.1.1 Config.deployedCodes.1.2,
    Config.withCodes_wf _ _ Config.deployedCodes.2⟩

end Sys2Proof
end

