-- ==== Sys2Proof/Syntax.lean ====
section
/-! DEFINITION. The instructions: the nine rows of opcode_table.json (30_encoding.md R50, R51, R55, R60, R66). -/

namespace Sys2Proof

/-- R52: the four host operations, in the order of their codes. -/
inductive HostOp where
  | initializeOp      -- `initialize`, code 0b00
  | enableRelayOp     -- `enable_relay`, code 0b01
  | disableRelayOp    -- `disable_relay`, code 0b10
  | readTelemetryOp   -- `read_telemetry`, code 0b11
  deriving DecidableEq, Repr, Inhabited

/-- R52: the code of an operation. -/
def HostOp.code : HostOp → BitVec 2
  | .initializeOp => 0b00
  | .enableRelayOp => 0b01
  | .disableRelayOp => 0b10
  | .readTelemetryOp => 0b11

/-- R16, R100: a TelemetryReply, each field the raw unsigned integer of the frame; a 32-bit field may be absent. -/
structure Reply where
  requestType : Byte
  unknown1    : Byte
  address     : Byte
  voltageRaw  : Half
  currentRaw  : Half
  power       : Option Wide
  amphour     : Option Wide
  watthour    : Option Wide
  deriving DecidableEq, Repr, Inhabited

/-- One constructor per row of opcode_table.json. A host operation carries its address and bit 10 of the command word
(R51), which the three one-shot operations latch and ignore (D36). A frame command carries its address (R80). The reply
carries its fields (R100). -/
inductive Instr where
  | initializeOp (addr : Byte) (active : Bool)      -- `initialize`, R137
  | enableRelayOp (addr : Byte) (active : Bool)     -- `enable_relay`, R135
  | disableRelayOp (addr : Byte) (active : Bool)    -- `disable_relay`, R136
  | readTelemetryOp (addr : Byte) (active : Bool)   -- `read_telemetry`, R123
  | initializeSensor (addr : Byte)                  -- `InitializeSensor`, R81
  | requestTelemetry (addr : Byte)                  -- `RequestTelemetry`, R84
  | enableRelay (addr : Byte)                       -- `EnableRelay`, R82
  | disableRelay (addr : Byte)                      -- `DisableRelay`, R83
  | telemetryReply (r : Reply)                      -- `TelemetryReply`, R100
  deriving DecidableEq, Repr, Inhabited

end Sys2Proof
end

