-- ==== Sys2Proof/Machine/Operands.lean ====
section
/-! DEFINITION. Operand forms: buffer accesses, big-endian assembly, the address byte, elapsed time, scaled values
(20_memory.md R31 to R35, 30_encoding.md R56, R59, 42_frame_decoder.md R109, 43_protocol_fsm.md R142). -/

namespace Sys2Proof.Machine

/-- R35: `MemRead(buf, i, n)` over the valid bytes of a buffer; refused (`none`) where `i + n` exceeds them. -/
def memRead (buf : List Byte) (i n : Nat) : Option (List Byte) :=
  if i + n ≤ buf.length then some ((buf.drop i).take n) else none

/-- R35: `MemWrite(buf, i, n, v)` with `v` the `n` bytes written; refused (`none`) outside the buffer. -/
def memWrite (buf : List Byte) (i : Nat) (v : List Byte) : Option (List Byte) :=
  if i + v.length ≤ buf.length then some (buf.take i ++ v ++ buf.drop (i + v.length)) else none

/-- R31: the unsigned integer of bytes, most significant first. -/
def beNat (bytes : List Byte) : Nat := bytes.foldl (fun acc b => 256 * acc + b.toNat) 0

/-- R7, R31: `be16(b, i)`, where both bytes are valid. -/
def be16 (buf : List Byte) (i : Nat) : Option Half := (memRead buf i 2).map fun v => BitVec.ofNat 16 (beNat v)

/-- R7, R31: `be32(b, i)`, where the four bytes are valid. -/
def be32 (buf : List Byte) (i : Nat) : Option Wide := (memRead buf i 4).map fun v => BitVec.ofNat 32 (beNat v)

/-- R31: byte `i` of a frame if it belongs to the field of `width` bytes at `start` that holds `v`. -/
def fieldByte (v width start i : Nat) : Option Byte :=
  if start ≤ i ∧ i < start + width then some (BitVec.ofNat 8 (v / 256 ^ (width - 1 - (i - start)))) else none

/-- R56: the address byte of an outbound frame; `RequestTelemetry` alone adds `REQ_ADDR_BIAS`, modulo 256. -/
def addressByte (cfg : Config) (c : FrameCmd) (a : Byte) : Byte :=
  match c with
  | .init => a
  | .en => a
  | .dis => a
  | .req => a + cfg.1.reqAddrBias

/-- R56 read backwards: the address whose address byte is `b`. -/
def addressOf (cfg : Config) (c : FrameCmd) (b : Byte) : Byte :=
  match c with
  | .init => b
  | .en => b
  | .dis => b
  | .req => b - cfg.1.reqAddrBias

/-- R142: `elapsed(t0) = (now - t0) mod 2^NOW_W`. -/
def elapsed (cfg : Config) (now t0 : Nat) : Nat :=
  (now + (2 ^ cfg.1.nowW - t0 % 2 ^ cfg.1.nowW)) % 2 ^ cfg.1.nowW

/-- R16, R109: the scaled fields of a reply. -/
inductive Field where
  | voltage | current | power | amphour | watthour
  deriving DecidableEq, Repr

/-- R4, R109: the divisor of a field, FIXED by the source. -/
def Field.divisor : Field → Nat
  | .voltage => 100
  | .current => 100
  | .power => 1000
  | .amphour => 1000
  | .watthour => 1000

/-- R109: the digits of the fraction for display. -/
def Field.fracDigits : Field → Nat
  | .voltage => 2
  | .current => 2
  | .power => 3
  | .amphour => 3
  | .watthour => 3

/-- R104 to R108, R110: the raw unsigned integer of a field, where the reply has it. -/
def Field.raw (f : Field) (r : Reply) : Option Nat :=
  match f with
  | .voltage => some r.voltageRaw.toNat
  | .current => some r.currentRaw.toNat
  | .power => r.power.map BitVec.toNat
  | .amphour => r.amphour.map BitVec.toNat
  | .watthour => r.watthour.map BitVec.toNat

/-- R109: the value of a raw integer, the exact rational `raw / DIV`. -/
def Field.value (f : Field) (raw : Nat) : Rat := (raw : Rat) / (f.divisor : Rat)

/-- R109: the integer part shown. -/
def Field.intPart (f : Field) (raw : Nat) : Nat := raw / f.divisor

/-- R109: the fraction shown, to be written with `fracDigits` digits. -/
def Field.fracPart (f : Field) (raw : Nat) : Nat := raw % f.divisor

end Sys2Proof.Machine
end

