-- ==== Sys2Proof/Machine/Decoder.lean ====
section
/-! DEFINITION. The frame decoder (42_frame_decoder.md): the valid bytes of a received frame to a reply or to "no reply",
pure (R112) and total (R111). -/

namespace Sys2Proof.Machine

/-- R102: the guard, on the two bytes it reads. -/
def guardHolds (rt u1 : Byte) : Bool := rt == guardRt && u1 == guardU1

/-- R106: `power`, present by length. -/
def powerField (cfg : Config) (b : List Byte) : Option Wide :=
  if cfg.1.pIdx + 4 ≤ b.length then be32 b cfg.1.pIdx else none

/-- R107: `amphour`, present by revision and length. -/
def amphourField (cfg : Config) (b : List Byte) : Option Wide :=
  if cfg.1.hasEnergy ∧ cfg.1.ahIdx + 4 ≤ b.length then be32 b cfg.1.ahIdx else none

/-- R108: `watthour`, present by revision and length. -/
def watthourField (cfg : Config) (b : List Byte) : Option Wide :=
  if cfg.1.hasEnergy ∧ cfg.1.whIdx + 4 ≤ b.length then be32 b cfg.1.whIdx else none

/-- R100: `decode`, `b` the valid bytes `rx_buf[0..rx_len)`. The length test stands first (R101), then the guard (R102).
Every byte read lies below the length by R5 (d), so the last case is never met after the length test. -/
def decodeReply (cfg : Config) (b : List Byte) : Option Reply :=
  if b.length < cfg.1.minReplyLen then none
  else
    match b[rtIdx]?, b[u1Idx]?, b[cfg.1.addrIdx]?, be16 b cfg.1.vIdx, be16 b cfg.1.iIdx with
    | some rt, some u1, some a, some v, some i =>
      if guardHolds rt u1 then
        some { requestType := rt, unknown1 := u1, address := a, voltageRaw := v, currentRaw := i,
               power := powerField cfg b, amphour := amphourField cfg b, watthour := watthourField cfg b }
      else none
    | _, _, _, _, _ => none

/-- R58, R59: byte `i` of a frame that carries the reply; 0x00 where no field stands (R63). -/
def replyByte (cfg : Config) (r : Reply) (i : Nat) : Byte :=
  ((fieldByte r.requestType.toNat 1 rtIdx i).or <|
   (fieldByte r.unknown1.toNat 1 u1Idx i).or <|
   (fieldByte r.address.toNat 1 cfg.1.addrIdx i).or <|
   (fieldByte r.voltageRaw.toNat 2 cfg.1.vIdx i).or <|
   (fieldByte r.currentRaw.toNat 2 cfg.1.iIdx i).or <|
   (r.power.bind fun w => fieldByte w.toNat 4 cfg.1.pIdx i).or <|
   (r.amphour.bind fun w => fieldByte w.toNat 4 cfg.1.ahIdx i).or <|
   (r.watthour.bind fun w => fieldByte w.toNat 4 cfg.1.whIdx i)).getD 0x00

/-- R62: the least length of a frame that carries the reply's fields. -/
def replyLen (cfg : Config) (r : Reply) : Nat :=
  max cfg.1.minReplyLen <|
  max (if r.power.isSome then cfg.1.pIdx + 4 else 0) <|
  max (if r.amphour.isSome then cfg.1.ahIdx + 4 else 0) (if r.watthour.isSome then cfg.1.whIdx + 4 else 0)

/-- R58, R62: the shortest frame that carries the reply, bytes outside every field 0x00 (entry 24). -/
def replyBytes (cfg : Config) (r : Reply) : List Byte := (List.range (replyLen cfg r)).map (replyByte cfg r)

end Sys2Proof.Machine
end

