-- ==== Sys2Proof/Machine/Checksum.lean ====
section
/-! DEFINITION. The checksum generator (40_checksum.md): pure functions of bytes and an offset (R72). -/

namespace Sys2Proof.Machine

/-- R70: the sum of the first `offset` bytes as unsigned integers, before truncation. -/
def checksumSum (bytes : List Byte) (offset : Nat) : Nat := ((bytes.take offset).map BitVec.toNat).sum

/-- R70: the wrapping sum, 8 bits. -/
def checksumByte (bytes : List Byte) (offset : Nat) : Byte := BitVec.ofNat 8 (checksumSum bytes offset)

/-- R70, R73: `compute_checksum(bytes, offset)`; refused (`none`) where the offset exceeds the length. -/
def computeChecksum (bytes : List Byte) (offset : Nat) : Option Byte :=
  if offset ≤ bytes.length then some (checksumByte bytes offset) else none

/-- R71, R73: `apply_checksum(bytes, offset)`; refused (`none`) where there is no byte at the offset. -/
def applyChecksum (bytes : List Byte) (offset : Nat) : Option (List Byte) :=
  match computeChecksum bytes offset with
  | some s => memWrite bytes offset [s]
  | none => none

end Sys2Proof.Machine
end

