-- ==== Sys2Proof/Machine/Encoder.lean ====
section
/-! DEFINITION. The frame encoder (41_frame_encoder.md): command and address to a 32-byte frame, pure (R88). -/

namespace Sys2Proof.Machine

/-- R80: `[PREAMBLE, CLASS[c], OPCODE[c], a] ++ PAYLOAD[c]`, the bytes before the checksum. -/
def headBytes (cfg : Config) (c : FrameCmd) (a : Byte) : List Byte :=
  [preamble, (cfg.1.template c).cls, (cfg.1.template c).opcode, addressByte cfg c a] ++ (cfg.1.template c).payload

/-- R80: the bytes of `encode(c, address)`: head, checksum, zero padding to 32. -/
def encodeBytes (cfg : Config) (c : FrameCmd) (a : Byte) : List Byte :=
  (headBytes cfg c a ++ [checksumByte (headBytes cfg c a) (csumOff c)]) ++
    List.replicate (32 - (csumOff c + 1)) 0x00

/-- R5 (a): the head is as long as the checksum's offset. -/
theorem headBytes_length (cfg : Config) (c : FrameCmd) (a : Byte) : (headBytes cfg c a).length = csumOff c := by
  have h := cfg.csumOff_eq c
  simp only [headBytes, List.length_append, List.length_cons, List.length_nil]
  omega

/-- R85: the length of an encoded frame. -/
theorem encodeBytes_length (cfg : Config) (c : FrameCmd) (a : Byte) : (encodeBytes cfg c a).length = 32 := by
  have h := headBytes_length cfg c a
  have hl := csumOff_lt c
  simp only [encodeBytes, List.length_append, List.length_cons, List.length_nil, List.length_replicate]
  omega

/-- R80: `encode(c, address)`, the OutboundFrame. -/
def encodeFrame (cfg : Config) (c : FrameCmd) (a : Byte) : Frame := ⟨encodeBytes cfg c a, encodeBytes_length cfg c a⟩

end Sys2Proof.Machine
end

