-- ==== Sys2Proof/Machine/State.lean ====
section
/-! DEFINITION. The state of the engine (10_state.md), and beside it, as plain data, the parameters of the step relation
(R9 (2), R18 to R20): configuration, environment, and the counter of the model's free values. -/

namespace Sys2Proof.Machine

/-- R11: the thirteen micro-states of `fsm_state`. -/
inductive FsmState where
  | idle | flushEntry | pollCheck | pollTx | pollPace | pollRead
  | resyncTx | resyncSettle | resyncFlush | oneshotTx | succeeded | timedOut | done
  deriving DecidableEq, Repr, Inhabited

/-- R12, R13: the session registers. The two timestamps are `NOW_W`-bit numbers. -/
structure Session where
  /-- `cur_op` -/
  curOp        : HostOp
  /-- `target_addr` -/
  targetAddr   : Byte
  /-- `active_req` -/
  activeReq    : Bool
  /-- `start_ts` -/
  startTs      : Nat
  /-- `last_resync_ts` -/
  lastResyncTs : Nat
  deriving DecidableEq, Repr, Inhabited

/-- R15: the receive buffer, its valid length (0..32) and the hit bit. -/
structure RxRegs where
  /-- `rx_buf` -/
  buf : Frame
  /-- `rx_len` -/
  len : Fin 33
  /-- `rx_hit` -/
  hit : Bool
  deriving DecidableEq, Repr

/-- R16, R17: the result registers and the three field-valid flags. -/
structure Results where
  requestType   : Byte
  unknown1      : Byte
  address       : Byte
  voltageRaw    : Half
  currentRaw    : Half
  powerRaw      : Wide
  amphourRaw    : Wide
  watthourRaw   : Wide
  powerValid    : Bool
  amphourValid  : Bool
  watthourValid : Bool
  deriving DecidableEq, Repr, Inhabited

/-- The environment as the engine meets it (R19, R20, R36, R121): not registers of the engine, and not reset with it. -/
structure Env where
  /-- R19: ticks of the timebase, unbounded; `now` is its low `NOW_W` bits (entry 6). -/
  time     : Nat
  /-- R20: the transport's receive queue, oldest frame first (entry 4). -/
  rxQueue  : List RxFrame
  /-- R36: the frames handed to `TxWrite`, oldest first (entry 5), with those another user sent between operations (R184). -/
  sent     : List Frame
  /-- R121: the host's command words that wait at the command port, oldest first (entry 16). -/
  commands : List CommandWord
  /-- What the outside world does in the next steps, oldest first; when empty the step takes a free input (entry 3). -/
  inputs   : List Input
  deriving DecidableEq, Repr, Inhabited

/-- The whole state. `fsm`, `session`, `txBuf`, `rx` and `res` are the state of R10; `cfg` and `env` are the parameters of
the step relation; `free` counts the free values taken so far (entry 8). -/
structure State where
  fsm     : FsmState
  session : Session
  txBuf   : Frame
  rx      : RxRegs
  res     : Results
  cfg     : Config
  env     : Env
  free    : Nat
  deriving DecidableEq, Repr

/-- R160, R164: the engine has no fault; its one reported failure, `Timeout`, is a next state (R161, R166). No
constructor: no step faults. -/
inductive Fault : Type
  deriving DecidableEq, Repr

/-- Why the model gives no next state. -/
inductive Refusal where
  /-- Raised by an arm of `exec` whose instruction has no meaning yet (none is left). Safe. -/
  | notModelled (mnemonic : String)
  /-- Raised by `step` in `ONESHOT_TX` with `cur_op = READ_TELEMETRY`, which no run reaches (R144: it "never reaches this
  state"; R140 has no row for it). Safe: the model stops (entry 22). -/
  | oneshotWithoutCommand
  deriving DecidableEq, Repr

/-- R22, R180: right after reset `fsm_state` is IDLE. The spec gives every other register no value; the model names zero
(DESIGN CHOICE, entry 7). The configuration is the instance's, the world has done nothing yet (entries 1 to 6, 16). -/
def State.reset : State where
  fsm := .idle
  session := { curOp := .initializeOp, targetAddr := 0, activeReq := false, startTs := 0, lastResyncTs := 0 }
  txBuf := Frame.zero
  rx := { buf := Frame.zero, len := 0, hit := false }
  res := { requestType := 0, unknown1 := 0, address := 0, voltageRaw := 0, currentRaw := 0, powerRaw := 0,
           amphourRaw := 0, watthourRaw := 0, powerValid := false, amphourValid := false, watthourValid := false }
  cfg := Config.deployed
  env := { time := 0, rxQueue := [], sent := [], commands := [], inputs := [] }
  free := 0

/-- Write `fsm_state`: the engine's control transfer (R8, R11). -/
def State.setFsm (s : State) (f : FsmState) : State := { s with fsm := f }

/-- Write the session registers. -/
def State.setSession (s : State) (x : Session) : State := { s with session := x }

/-- Write `tx_buf`. -/
def State.setTxBuf (s : State) (f : Frame) : State := { s with txBuf := f }

/-- Write `rx_buf`, `rx_len`, `rx_hit` together (R15). -/
def State.setRx (s : State) (x : RxRegs) : State := { s with rx := x }

/-- Write the result registers together (R16). -/
def State.setRes (s : State) (x : Results) : State := { s with res := x }

/-- The environment moves on. -/
def State.setEnv (s : State) (x : Env) : State := { s with env := x }

/-- The free-value counter moves on. -/
def State.setFree (s : State) (n : Nat) : State := { s with free := n }

end Sys2Proof.Machine
end

