-- ==== Sys2Proof/Machine/Ops.lean ====
section
/-! DEFINITION. The named operations over the state: time, free values, the transport primitives, the session, reporting
a failure and returning from it (R8, R35 to R38, R121, R124, R133, R138, R139, R166, R167, R181). -/

namespace Sys2Proof.Machine

/-- R19, R142: the sample of the timebase, `NOW_W` bits. -/
def State.now (s : State) : Nat := s.env.time % 2 ^ s.cfg.1.nowW

/-- R139: ticks pass. -/
def State.advance (s : State) (ticks : Nat) : State := s.setEnv { s.env with time := s.env.time + ticks }

/-- R15: the valid bytes of `rx_buf`. -/
def State.rxBytes (s : State) : List Byte := s.rx.buf.1.take s.rx.len.val

/-- The next free draw is taken. -/
def State.draw (s : State) : State := s.setFree (s.free + 1)

/-- R22, R23: an unspecified session, draw `n`; the timestamps keep their width. -/
def freeSession (cfg : Config) (n : Nat) : Session where
  curOp :=
    if Config.freeBit n 0 then (if Config.freeBit n 1 then .initializeOp else .enableRelayOp)
    else (if Config.freeBit n 1 then .disableRelayOp else .readTelemetryOp)
  targetAddr := BitVec.ofNat 8 (Config.freeNat n 0)
  activeReq := Config.freeBit n 2
  startTs := Config.freeNat n 1 % 2 ^ cfg.1.nowW
  lastResyncTs := Config.freeNat n 2 % 2 ^ cfg.1.nowW

/-- R14, R15: an unspecified frame buffer, draw `n`. -/
def freeFrame (n : Nat) : Frame := Frame.ofFn (Config.freeByte n)

/-- R15: an unspecified length, 0..32. -/
def freeLen (n : Nat) : Fin 33 := Fin.ofNat 33 (Config.freeNat n 3)

/-- R16: unspecified result registers, draw `n`. -/
def freeResults (n : Nat) : Results where
  requestType := BitVec.ofNat 8 (Config.freeNat n 4)
  unknown1 := BitVec.ofNat 8 (Config.freeNat n 5)
  address := BitVec.ofNat 8 (Config.freeNat n 6)
  voltageRaw := BitVec.ofNat 16 (Config.freeNat n 7)
  currentRaw := BitVec.ofNat 16 (Config.freeNat n 8)
  powerRaw := BitVec.ofNat 32 (Config.freeNat n 9)
  amphourRaw := BitVec.ofNat 32 (Config.freeNat n 10)
  watthourRaw := BitVec.ofNat 32 (Config.freeNat n 11)
  powerValid := Config.freeBit n 3
  amphourValid := Config.freeBit n 4
  watthourValid := Config.freeBit n 5

/-- R23: the session, both buffers and the results become unspecified (entry 8). -/
def State.forget (s : State) : State where
  fsm := s.fsm
  session := freeSession s.cfg s.free
  txBuf := freeFrame (s.free + 1)
  rx := { buf := freeFrame (s.free + 2), len := freeLen (s.free + 2), hit := Config.freeBit (s.free + 2) 6 }
  res := freeResults (s.free + 3)
  cfg := s.cfg
  env := s.env
  free := s.free + 4

/-- R36: `TxWrite(tx_buf)`: the frame is handed to the transport; it always completes and reports nothing. -/
def State.txWrite (s : State) : State := s.setEnv { s.env with sent := s.env.sent ++ [s.txBuf] }

/-- R14, R80, R89: `tx_buf <- encode(c, a)`. -/
def State.encodeTx (s : State) (c : FrameCmd) (a : Byte) : State := s.setTxBuf (encodeFrame s.cfg c a)

/-- R127, R130, R144: encode, transmit, go on. -/
def State.transmit (s : State) (c : FrameCmd) (a : Byte) (next : FsmState) : State :=
  ((s.encodeTx c a).txWrite).setFsm next

/-- R15: the receive registers after a hit; the bytes at and beyond the frame's length are free (entry 10). -/
def hitRegs (f : RxFrame) (n : Nat) : RxRegs where
  buf := Frame.ofFn fun i => f.1.getD i (Config.freeByte n i)
  len := ⟨f.1.length, Nat.lt_succ_of_le f.2⟩
  hit := true

/-- R15: the receive registers after a miss; buffer and length are free (entry 10). -/
def missRegs (n : Nat) : RxRegs where
  buf := freeFrame n
  len := freeLen n
  hit := false

/-- R37, R139 (c): `RxRead(t)`: a hit takes the frame at the head of the receive queue; a miss, when no frame is
available, takes at least `t` ticks. -/
def State.rxRead (s : State) (t : Nat) : State :=
  match s.env.rxQueue with
  | f :: rest => ((s.setRx (hitRegs f s.free)).draw).setEnv { s.env with rxQueue := rest }
  | [] => ((s.setRx (missRegs s.free)).draw).advance t

/-- R121: a command word is latched; R124: a `READ_TELEMETRY` creates its session's two timestamps from one sample. -/
def State.accept (s : State) (op : HostOp) (a : Byte) (active : Bool) : State :=
  (s.setSession
    { curOp := op, targetAddr := a, activeReq := active
      startTs := if op = .readTelemetryOp then s.now else s.session.startTs
      lastResyncTs := if op = .readTelemetryOp then s.now else s.session.lastResyncTs }).setFsm .flushEntry

/-- R121: acceptance in IDLE, and only there; elsewhere the command is not accepted and nothing is disturbed. -/
def State.offer (s : State) (op : HostOp) (a : Byte) (active : Bool) : State :=
  if s.fsm = .idle then s.accept op a active else s

/-- R133: the result registers of a reply; the raw value of an absent field is free (R16, entry 9). -/
def resultsOf (r : Reply) (n : Nat) : Results where
  requestType := r.requestType
  unknown1 := r.unknown1
  address := r.address
  voltageRaw := r.voltageRaw
  currentRaw := r.currentRaw
  powerRaw := r.power.getD (freeResults n).powerRaw
  amphourRaw := r.amphour.getD (freeResults n).amphourRaw
  watthourRaw := r.watthour.getD (freeResults n).watthourRaw
  powerValid := r.power.isSome
  amphourValid := r.amphour.isSome
  watthourValid := r.watthour.isSome

/-- R129, R133: the reply is reported. -/
def State.succeed (s : State) (r : Reply) : State := ((s.setRes (resultsOf r s.free)).draw).setFsm .succeeded

/-- The result registers become unspecified (R16: on `TIMEDOUT` and `DONE`; entry 9). -/
def State.freeRes (s : State) : State := (s.setRes (freeResults s.free)).draw

/-- R161, R166, R134: reporting the one failure, `Timeout`: control goes to TIMEDOUT, nothing is saved, no frame is sent, no
flush is made; the result registers are unspecified. -/
def State.raiseTimeout (s : State) : State := (s.freeRes).setFsm .timedOut

/-- R138, R167: the host takes the response, of a success or of a failure: back to IDLE, session, buffers and results
unspecified (R23). -/
def State.takeResponse (s : State) : State := (s.forget).setFsm .idle

/-- R180: the reset event: IDLE, every other register unspecified; configuration and environment untouched. -/
def State.resetRegs (s : State) : State := (s.forget).setFsm .idle

/-- R144: the frame command of a one-shot operation. -/
def cmdOf (op : HostOp) : Option FrameCmd :=
  match op with
  | .initializeOp => some .init
  | .enableRelayOp => some .en
  | .disableRelayOp => some .dis
  | .readTelemetryOp => none

/-- R127, R130, R144: the command the current micro-state transmits, if it transmits one. -/
def State.txCommand (s : State) : Option FrameCmd :=
  match s.fsm with
  | .pollTx => some .req
  | .resyncTx => some .init
  | .oneshotTx => cmdOf s.session.curOp
  | .idle => none
  | .flushEntry => none
  | .pollCheck => none
  | .pollPace => none
  | .pollRead => none
  | .resyncSettle => none
  | .resyncFlush => none
  | .succeeded => none
  | .timedOut => none
  | .done => none

/-- R120: the micro-states that read the receive channel. -/
def FsmState.reads : FsmState → Bool
  | .flushEntry => true
  | .pollRead => true
  | .resyncFlush => true
  | .idle => false
  | .pollCheck => false
  | .pollTx => false
  | .pollPace => false
  | .resyncTx => false
  | .resyncSettle => false
  | .oneshotTx => false
  | .succeeded => false
  | .timedOut => false
  | .done => false

/-- U12, R139 (f): the micro-states that do one access or one wait, which may not have ended yet. -/
def FsmState.waits : FsmState → Bool
  | .flushEntry => true
  | .pollTx => true
  | .pollPace => true
  | .pollRead => true
  | .resyncTx => true
  | .resyncSettle => true
  | .resyncFlush => true
  | .oneshotTx => true
  | .idle => false
  | .pollCheck => false
  | .succeeded => false
  | .timedOut => false
  | .done => false

/-- R181, U16: what an access outstanding at a reset has done outside the engine, where it took effect. -/
def State.accessTook (s : State) : State :=
  match s.txCommand with
  | some c => s.setEnv { s.env with sent := s.env.sent ++ [encodeFrame s.cfg c s.session.targetAddr] }
  | none => if s.fsm.reads then s.setEnv { s.env with rxQueue := s.env.rxQueue.tail } else s

/-- R180, R181: a reset, in mid-operation or not. -/
def State.resetEvent (s : State) (took : Bool) : State :=
  if took then s.accessTook.resetRegs else s.resetRegs

/-- R184: how many frames another user takes in this step: between operations any number, none while the engine is busy. -/
def State.othersTake (s : State) (i : Input) : Nat := if s.fsm = .idle then i.otherReads else 0

/-- R184: the frames another user transmits in this step: between operations any, none while the engine is busy. -/
def State.othersSend (s : State) (i : Input) : List Frame := if s.fsm = .idle then i.otherWrites else []

/-- R139, R20, R121, R184: what the outside world does before the step's own action: time passes, frames arrive, the host
offers a command word, and between operations another user takes frames from the transport and transmits (entries 17, 25). -/
def State.absorb (s : State) (i : Input) : State :=
  s.setEnv { s.env with
    time := s.env.time + i.delay
    rxQueue := (s.env.rxQueue ++ i.arrivals).drop (s.othersTake i)
    sent := s.env.sent ++ s.othersSend i
    commands := s.env.commands ++ i.command.toList }

/-- The input of this step: the first one listed, else a free one (entry 3). -/
def State.nextInput (s : State) : Input :=
  match s.env.inputs with
  | i :: _ => i
  | [] => Config.freeInput s.free

/-- The state once this step's input is taken. -/
def State.dropInput (s : State) : State :=
  match s.env.inputs with
  | _ :: rest => s.setEnv { s.env with inputs := rest }
  | [] => s.draw

end Sys2Proof.Machine
end

