-- ==== Sys2Proof/Machine/Commands.lean ====
section
/-! DEFINITION. The meanings of the four host operations: command acceptance (43_protocol_fsm.md R121, R123, R124, R135 to
R137). What the operation then does, one micro-state a step, is Machine/Micro.lean. -/

namespace Sys2Proof.Machine

/-- R137, R121: `initialize a`. -/
def execInitializeOp (a : Byte) (active : Bool) (s : State) : Host.Outcome State Fault Refusal :=
  .next (s.offer .initializeOp a active)

/-- R135, R121: `enable_relay a`. -/
def execEnableRelayOp (a : Byte) (active : Bool) (s : State) : Host.Outcome State Fault Refusal :=
  .next (s.offer .enableRelayOp a active)

/-- R136, R121: `disable_relay a`. -/
def execDisableRelayOp (a : Byte) (active : Bool) (s : State) : Host.Outcome State Fault Refusal :=
  .next (s.offer .disableRelayOp a active)

/-- R123, R121, R124: `read_telemetry a, act`. -/
def execReadTelemetryOp (a : Byte) (active : Bool) (s : State) : Host.Outcome State Fault Refusal :=
  .next (s.offer .readTelemetryOp a active)

end Sys2Proof.Machine
end

