-- ==== Sys2Proof/Machine/Frames.lean ====
section
/-! DEFINITION. The meanings of the four frame commands: encode and transmit, in the micro-state that issues the command
(41_frame_encoder.md R81 to R84, 43_protocol_fsm.md R127, R130, R144). No other row of R140 transmits, so elsewhere a frame
command does nothing (entry 14). -/

namespace Sys2Proof.Machine

/-- R127, R130: transmit where the polling or resyncing state issues the command, R144: or where the one-shot operation
does; `DONE` leaves the results unspecified (R16). -/
def State.issue (s : State) (c : FrameCmd) (a : Byte) : State :=
  if s.txCommand = some c then
    match s.fsm with
    | .pollTx => s.transmit c a .pollPace
    | .resyncTx => s.transmit c a .resyncSettle
    | .oneshotTx => (s.transmit c a .done).freeRes
    | .idle => s
    | .flushEntry => s
    | .pollCheck => s
    | .pollPace => s
    | .pollRead => s
    | .resyncSettle => s
    | .resyncFlush => s
    | .succeeded => s
    | .timedOut => s
    | .done => s
  else s

/-- R81: `InitializeSensor`, of a resync (R130) or of `initialize` (R144). -/
def execInitializeSensor (a : Byte) (s : State) : Host.Outcome State Fault Refusal := .next (s.issue .init a)

/-- R84: `RequestTelemetry`, the active request (R127). -/
def execRequestTelemetry (a : Byte) (s : State) : Host.Outcome State Fault Refusal := .next (s.issue .req a)

/-- R82: `EnableRelay` (R144). -/
def execEnableRelay (a : Byte) (s : State) : Host.Outcome State Fault Refusal := .next (s.issue .en a)

/-- R83: `DisableRelay` (R144). -/
def execDisableRelay (a : Byte) (s : State) : Host.Outcome State Fault Refusal := .next (s.issue .dis a)

end Sys2Proof.Machine
end

