-- ==== Sys2Proof/Machine/Telemetry.lean ====
section
/-! DEFINITION. The meaning of a decoded telemetry reply (43_protocol_fsm.md R129, R133). -/

namespace Sys2Proof.Machine

/-- R129: in `POLL_READ` a reply whose address is the target's is reported, any other is dropped. In every other state a reply
is no event for the engine: a flush drops it undecoded (R122), else it waits in the transport's queue (R164; entry 15). -/
def execTelemetryReply (r : Reply) (s : State) : Host.Outcome State Fault Refusal :=
  if s.fsm = .pollRead then
    if r.address = s.session.targetAddr then .next (s.succeed r) else .next (s.setFsm .pollCheck)
  else .next s

end Sys2Proof.Machine
end

