-- ==== Sys2Proof/Machine/Dispatch.lean ====
section
/-! DEFINITION. One arm per instruction. -/

namespace Sys2Proof.Machine

def exec (i : Instr) (s : State) : Host.Outcome State Fault Refusal :=
  match i with
  | .initializeOp a act => Sys2Proof.Machine.execInitializeOp a act s
  | .enableRelayOp a act => Sys2Proof.Machine.execEnableRelayOp a act s
  | .disableRelayOp a act => Sys2Proof.Machine.execDisableRelayOp a act s
  | .readTelemetryOp a act => Sys2Proof.Machine.execReadTelemetryOp a act s
  | .initializeSensor a => Sys2Proof.Machine.execInitializeSensor a s
  | .requestTelemetry a => Sys2Proof.Machine.execRequestTelemetry a s
  | .enableRelay a => Sys2Proof.Machine.execEnableRelay a s
  | .disableRelay a => Sys2Proof.Machine.execDisableRelay a s
  | .telemetryReply r => Sys2Proof.Machine.execTelemetryReply r s

end Sys2Proof.Machine
end

