-- ==== Sys2Proof/WellFormed.lean ====
section
/-! DEFINITION. Which instructions are well-formed under a configuration. Every command word and every frame command is
(R52, R65: all codes and all 256 addresses are legal); a reply must pass the guard and carry the fields that some length
gives it (R60, R62). -/

namespace Sys2Proof

/-- R102: a reply carries the guard's two bytes. -/
def Reply.guardOk (r : Reply) : Bool := Machine.guardHolds r.requestType r.unknown1

/-- R38: the reply fits a received frame. -/
def Reply.fits (cfg : Config) (r : Reply) : Bool := Machine.replyLen cfg r ≤ 32

/-- R62, R106: `power` is there exactly when the frame is long enough. -/
def Reply.powerOk (cfg : Config) (r : Reply) : Bool :=
  r.power.isSome == decide (cfg.1.pIdx + 4 ≤ Machine.replyLen cfg r)

/-- R62, R107: `amphour` is there exactly when the revision has it and the frame is long enough. -/
def Reply.amphourOk (cfg : Config) (r : Reply) : Bool :=
  r.amphour.isSome == (cfg.1.hasEnergy && decide (cfg.1.ahIdx + 4 ≤ Machine.replyLen cfg r))

/-- R62, R108: `watthour` likewise. -/
def Reply.watthourOk (cfg : Config) (r : Reply) : Bool :=
  r.watthour.isSome == (cfg.1.hasEnergy && decide (cfg.1.whIdx + 4 ≤ Machine.replyLen cfg r))

/-- R58 to R62: a well-formed reply. -/
def Reply.wellFormed (cfg : Config) (r : Reply) : Bool :=
  r.guardOk && r.fits cfg && r.powerOk cfg && r.amphourOk cfg && r.watthourOk cfg

/-- A well-formed instruction. -/
def Instr.wellFormed (cfg : Config) : Instr → Bool
  | .initializeOp _ _ => true
  | .enableRelayOp _ _ => true
  | .disableRelayOp _ _ => true
  | .readTelemetryOp _ _ => true
  | .initializeSensor _ => true
  | .requestTelemetry _ => true
  | .enableRelay _ => true
  | .disableRelay _ => true
  | .telemetryReply r => r.wellFormed cfg

end Sys2Proof
end

