-- ==== Sys2Proof/Decode.lean ====
section
/-! DEFINITION. The decoder, total on any bytes and rejecting by name, and the encoder (30_encoding.md). The three
encodings travel on three channels (R50); as bytes they are told apart by length: a command word is two bytes (entry 19),
a frame three or more (a shorter frame is never a reply, R5 (d)). -/

namespace Sys2Proof

open Sys2Proof.Machine

/-- R52: the operation of a code; all four codes are used. -/
def HostOp.ofCode (c : BitVec 2) : HostOp :=
  if c = 0b00 then .initializeOp
  else if c = 0b01 then .enableRelayOp
  else if c = 0b10 then .disableRelayOp
  else .readTelemetryOp

/-- R51: bits 9:8. -/
def cmdOp (w : CommandWord) : HostOp := HostOp.ofCode (w.extractLsb' 8 2)

/-- R51: bits 7:0. -/
def cmdAddr (w : CommandWord) : Byte := w.extractLsb' 0 8

/-- R51: bit 10. -/
def cmdActive (w : CommandWord) : Bool := w.getLsbD 10

/-- R51, R52: the instruction of a command word; there is no illegal word. -/
def decodeCommand (w : CommandWord) : Instr :=
  match cmdOp w with
  | .initializeOp => .initializeOp (cmdAddr w) (cmdActive w)
  | .enableRelayOp => .enableRelayOp (cmdAddr w) (cmdActive w)
  | .disableRelayOp => .disableRelayOp (cmdAddr w) (cmdActive w)
  | .readTelemetryOp => .readTelemetryOp (cmdAddr w) (cmdActive w)

/-- R51, R52: the command word of an operation, an address and the active bit. -/
def commandWord (op : HostOp) (a : Byte) (active : Bool) : CommandWord := BitVec.ofBool active ++ op.code ++ a

/-- The frame command of a command and an address. -/
def frameInstr (c : FrameCmd) (a : Byte) : Instr :=
  match c with
  | .init => .initializeSensor a
  | .en => .enableRelay a
  | .dis => .disableRelay a
  | .req => .requestTelemetry a

/-- Why the decoder refuses bytes. -/
inductive DecodeError where
  /-- Two bytes whose five bits above the 11 of the command word (R51) are not all zero. -/
  | commandWordTooWide
  /-- No encoding has this length: fewer than two bytes, or more than 32 (R38, R50). -/
  | noSuchLength
  /-- A frame shorter than 32 bytes that is no telemetry reply (R61); an outbound frame always has 32 (R85). -/
  | notAReply
  /-- A 32-byte frame that is no reply and whose byte 0 is not the preamble (R53, R54). -/
  | badPreamble
  /-- A frame with the preamble whose class and opcode are no command's (R55). -/
  | unknownTemplate
  /-- A frame with a command's class and opcode whose payload, checksum or padding is not that command's (R57, R65). -/
  | badBody
  deriving DecidableEq, Repr

/-- R53 to R57: a command whose frame this is, with its address; `OUT4` frames are tried first (entry 18). -/
def matchOutbound (cfg : Config) (bytes : List Byte) : Option (FrameCmd × Byte) :=
  ([FrameCmd.init, FrameCmd.req, FrameCmd.en, FrameCmd.dis].find? fun c => bytes == encodeBytes cfg c (addressOf cfg c (bytes.getD 3 0))).map fun c =>
    (c, addressOf cfg c (bytes.getD 3 0))

/-- R55: some command has this class and this opcode. -/
def knownTemplate (cfg : Config) (cls opcode : Byte) : Bool :=
  FrameCmd.all.any fun c => (cfg.1.template c).cls == cls && (cfg.1.template c).opcode == opcode

/-- R53 to R57, R65: a 32-byte outbound frame, or the reason it is none. -/
def decodeOutbound (cfg : Config) (bytes : List Byte) : Except DecodeError Instr :=
  match matchOutbound cfg bytes with
  | some (c, a) => .ok (frameInstr c a)
  | none =>
    if bytes.getD 0 0 ≠ preamble then .error .badPreamble
    else if knownTemplate cfg (bytes.getD 1 0) (bytes.getD 2 0) then .error .badBody
    else .error .unknownTemplate

/-- The two bytes of a command word, low byte first; the five bits above bit 10 are zero. -/
def commandBytes (w : CommandWord) : List Byte := [w.extractLsb' 0 8, (w.extractLsb' 8 3).setWidth 8]

/-- R51: a command word from its two bytes, low byte first. -/
def decodeCommandBytes (lo hi : Byte) : Except DecodeError Instr :=
  if hi.extractLsb' 3 5 = 0 then .ok (decodeCommand (hi.extractLsb' 0 3 ++ lo)) else .error .commandWordTooWide

/-- R60 to R65: a frame is a telemetry reply by length and guard, else an outbound frame, else refused. -/
def decodeFrameBytes (cfg : Config) (bytes : List Byte) : Except DecodeError Instr :=
  match decodeReply cfg bytes with
  | some r => .ok (.telemetryReply r)
  | none =>
    if bytes.length = 32 then decodeOutbound cfg bytes
    else .error .notAReply

/-- R50: the instruction some bytes encode. -/
def decodeBytes (cfg : Config) (bytes : List Byte) : Except DecodeError Instr :=
  match bytes with
  | [lo, hi] => decodeCommandBytes lo hi
  | _ => if 3 ≤ bytes.length ∧ bytes.length ≤ 32 then decodeFrameBytes cfg bytes else .error .noSuchLength

/-- R50 to R62: the bytes of a well-formed instruction. -/
def encode (cfg : Config) : Instr → List Byte
  | .initializeOp a act => commandBytes (commandWord .initializeOp a act)
  | .enableRelayOp a act => commandBytes (commandWord .enableRelayOp a act)
  | .disableRelayOp a act => commandBytes (commandWord .disableRelayOp a act)
  | .readTelemetryOp a act => commandBytes (commandWord .readTelemetryOp a act)
  | .initializeSensor a => encodeBytes cfg .init a
  | .requestTelemetry a => encodeBytes cfg .req a
  | .enableRelay a => encodeBytes cfg .en a
  | .disableRelay a => encodeBytes cfg .dis a
  | .telemetryReply r => replyBytes cfg r

/-- The instruction, `none` where the decoder refuses. -/
def decodeOption (cfg : Config) (bytes : List Byte) : Option Instr :=
  match decodeBytes cfg bytes with
  | .ok i => some i
  | .error _ => none

/-- D12, R68: the bytes of an instruction whose bits are `w`, bit 0 the least significant of byte 0: two bytes for a
command word, 32 for a frame, the bits above `nbits` zero. -/
def tableBytes (nbits w : Nat) : List Byte :=
  (List.range (if nbits ≤ 16 then 2 else 32)).map fun i => BitVec.ofNat 8 (w % 2 ^ nbits / 256 ^ i)

/-- The instruction the decoder reads from bits numbered as opcode_table.json numbers them, under the configuration the
machine resets with (R68: outbound rows are told apart only once `Config` is given). -/
def decodeTableWord (nbits w : Nat) : Option Instr := decodeOption Config.deployed (tableBytes nbits w)

end Sys2Proof
end

