-- ==== Sys2Proof/Machine/Micro.lean ====
section
/-! DEFINITION. The micro-states that run no instruction, one rule each (43_protocol_fsm.md R122, R125 to R129, R131, R132, R138,
R143; the table R140). -/

namespace Sys2Proof.Machine

/-- R127, R132: the state that goes on with an iteration, by `active_req`. -/
def State.iterate (s : State) : FsmState := if s.session.activeReq then .pollTx else .pollPace

/-- R143: `FLUSH_ENTRY`, one read of the entry flush. -/
def State.flushEntryStep (s : State) : State :=
  if (s.rxRead 0).rx.hit then s.rxRead 0
  else (s.rxRead 0).setFsm (if s.session.curOp = .readTelemetryOp then .pollCheck else .oneshotTx)

/-- R125, R126, R127, R165 (a): `POLL_CHECK`, deadline test, then resync test, then transmit choice, one sample of `now`. -/
def State.pollCheckStep (s : State) : State :=
  if elapsed s.cfg s.now s.session.startTs > s.cfg.1.tDeadline then s.raiseTimeout
  else if elapsed s.cfg s.now s.session.lastResyncTs > s.cfg.1.tResync then s.setFsm .resyncTx
  else s.setFsm s.iterate

/-- R128: `POLL_PACE`, `Wait(T_PACE)`. -/
def State.pollPaceStep (s : State) : State := (s.advance s.cfg.1.tPace).setFsm .pollRead

/-- R131: `RESYNC_SETTLE`, `Wait(T_SETTLE)`. -/
def State.resyncSettleStep (s : State) : State := (s.advance s.cfg.1.tSettle).setFsm .resyncFlush

/-- R132: the end of a resync, at the final miss. -/
def State.endResync (s : State) : State :=
  (s.setSession { s.session with lastResyncTs := s.now }).setFsm s.iterate

/-- R132: `RESYNC_FLUSH`, one read of the resync's flush. -/
def State.resyncFlushStep (s : State) : State :=
  if (s.rxRead 0).rx.hit then s.rxRead 0 else (s.rxRead 0).endResync

/-- R129: `POLL_READ`'s read, `RxRead(T_READ)`. -/
def State.pollReadAccess (s : State) : State := s.rxRead s.cfg.1.tRead

/-- R138, R188: a terminal state holds until the host takes the response. -/
def State.terminalStep (s : State) (rspReady : Bool) : State := if rspReady then s.takeResponse else s

end Sys2Proof.Machine
end

