-- ==== Sys2Proof/Machine/Fetch.lean ====
section
/-! DEFINITION. What one step of the engine runs: an instruction (a host operation at the command port, a frame command of
a transmit state, a decoded reply), or a micro-state that runs none (43_protocol_fsm.md R140); and how a table word is
placed where the step fetches it. -/

namespace Sys2Proof.Machine

/-- What a step is about to do. -/
inductive Fetched where
  /-- Run this instruction in this state. -/
  | instr (i : Instr) (s : State)
  /-- The step runs no instruction; this is its next state. -/
  | auto (s : State)
  /-- The step has no meaning. -/
  | stop (r : Refusal)
  deriving DecidableEq, Repr

/-- R121: in IDLE the oldest waiting command word is taken; with none the engine waits. -/
def State.fetchCommand (s : State) : Fetched :=
  match s.env.commands with
  | w :: rest => .instr (decodeCommand w) (s.setEnv { s.env with commands := rest })
  | [] => .auto s

/-- R129: the frame `POLL_READ` has read, if it decodes to a reply; a miss or a frame that is none goes on to the next
iteration. -/
def State.fetchReply (s : State) : Fetched :=
  if s.pollReadAccess.rx.hit then
    match decodeReply s.cfg s.pollReadAccess.rxBytes with
    | some r => .instr (.telemetryReply r) s.pollReadAccess
    | none => .auto (s.pollReadAccess.setFsm .pollCheck)
  else .auto (s.pollReadAccess.setFsm .pollCheck)

/-- R127, R130, R144: the frame command of a transmit state, for the target address. -/
def State.fetchFrame (s : State) : Fetched :=
  match s.txCommand with
  | some c => .instr (frameInstr c s.session.targetAddr) s
  | none => .stop .oneshotWithoutCommand

/-- R140: what the current micro-state does. -/
def State.microFetch (s : State) (rspReady : Bool) : Fetched :=
  match s.fsm with
  | .idle => s.fetchCommand
  | .flushEntry => .auto s.flushEntryStep
  | .pollCheck => .auto s.pollCheckStep
  | .pollTx => s.fetchFrame
  | .pollPace => .auto s.pollPaceStep
  | .pollRead => s.fetchReply
  | .resyncTx => s.fetchFrame
  | .resyncSettle => .auto s.resyncSettleStep
  | .resyncFlush => .auto s.resyncFlushStep
  | .oneshotTx => s.fetchFrame
  | .succeeded => .auto (s.terminalStep rspReady)
  | .timedOut => .auto (s.terminalStep rspReady)
  | .done => .auto (s.terminalStep rspReady)

/-- One input of the outside world, then: a reset (R180, R181), or an access or wait that has not ended (U12), or the
micro-state's action (R140). -/
def State.fetch (s : State) : Fetched :=
  match s.nextInput.reset with
  | some took => .auto ((s.dropInput.absorb s.nextInput).resetEvent took)
  | none =>
    if s.nextInput.pending && s.fsm.waits then .auto (s.dropInput.absorb s.nextInput)
    else (s.dropInput.absorb s.nextInput).microFetch s.nextInput.rspReady

/-- The next step's input is the quiet one. -/
def State.quietNext (s : State) : State := s.setEnv { s.env with inputs := Input.quiet :: s.env.inputs }

/-- The host's word stands at the command port, next to be taken in IDLE (R121). -/
def State.placeCommand (s : State) (w : CommandWord) : State :=
  (s.setEnv { s.env with commands := w :: s.env.commands }).setFsm .idle

/-- The engine stands in the state that issues the frame command, for this address (R127, R130, R144). -/
def State.placeFrame (s : State) (c : FrameCmd) (a : Byte) : State :=
  match c with
  | .init => (s.setSession { s.session with targetAddr := a }).setFsm .resyncTx
  | .req => (s.setSession { s.session with targetAddr := a }).setFsm .pollTx
  | .en => (s.setSession { s.session with targetAddr := a, curOp := .enableRelayOp }).setFsm .oneshotTx
  | .dis => (s.setSession { s.session with targetAddr := a, curOp := .disableRelayOp }).setFsm .oneshotTx

/-- The frame is at the head of the receive queue and the engine is about to read it in `POLL_READ` (R129). -/
def State.placeReceived (s : State) (f : RxFrame) : State :=
  (s.setEnv { s.env with rxQueue := f :: s.env.rxQueue }).setFsm .pollRead

/-- The bytes of `tableBytes` that are received as a frame. -/
def tableRxFrame (nbits w : Nat) : RxFrame :=
  ⟨tableBytes nbits w, by simp only [tableBytes, List.length_map, List.length_range]; split <;> omega⟩

/-- Place a frame: a reply in the receive queue, an outbound frame as the command that transmits it. -/
def State.placeTableFrame (s : State) (nbits w : Nat) : State :=
  match decodeReply s.cfg (tableBytes nbits w) with
  | some _ => s.placeReceived (tableRxFrame nbits w)
  | none =>
    match matchOutbound s.cfg (tableBytes nbits w) with
    | some (c, a) => s.placeFrame c a
    | none => s.placeReceived (tableRxFrame nbits w)

/-- Place the instruction of a table word so that the very next step runs it (entry 20). -/
def State.placeTableWord (s : State) (nbits w : Nat) : State :=
  if nbits ≤ 16 then
    if w % 2 ^ nbits < 2 ^ 11 then (s.placeCommand (BitVec.ofNat 11 (w % 2 ^ nbits))).quietNext else s
  else (s.placeTableFrame nbits w).quietNext

end Sys2Proof.Machine
end

