-- ==== Sys2Proof/Machine/Step.lean ====
section
/-! DEFINITION. One step of the engine. -/

namespace Sys2Proof.Machine

/-- R44, R140: one input of the outside world and one micro-state; the instruction it fetches, if any, is run by `exec`. -/
def step (s : State) : Host.Outcome State Fault Refusal :=
  match s.fetch with
  | .instr i t => exec i t
  | .auto t => .next t
  | .stop r => .refused r

/-- `s` with the instruction of a table word placed where the next step fetches its instruction (entry 20). -/
def State.withFetchWord (s : State) (nbits w : Nat) : State := s.placeTableWord nbits w

end Sys2Proof.Machine
end

