-- ==== Sys2Proof/Machine/Flags.lean ====
section
/-! DEFINITION. The status flags and the two host ports as functions of the state (10_state.md R17, 43_protocol_fsm.md R120,
R121, R138). The engine has no condition codes. -/

namespace Sys2Proof.Machine

/-- R17: the status of a response. -/
inductive Status where
  | ok | timeout | sent
  deriving DecidableEq, Repr, Inhabited

/-- R17: the code of a status; code 3 is never produced. -/
def Status.code : Status → BitVec 2
  | .ok => 0
  | .timeout => 1
  | .sent => 2

/-- R120: the source's five states. -/
inductive SourceState where
  | flushing | polling | resyncing | succeeded | timedOut
  deriving DecidableEq, Repr

/-- R11, R120: the source state a micro-state belongs to; three micro-states are the spec's additions. -/
def FsmState.source : FsmState → Option SourceState
  | .flushEntry => some .flushing
  | .pollCheck => some .polling
  | .pollTx => some .polling
  | .pollPace => some .polling
  | .pollRead => some .polling
  | .resyncTx => some .resyncing
  | .resyncSettle => some .resyncing
  | .resyncFlush => some .resyncing
  | .succeeded => some .succeeded
  | .timedOut => some .timedOut
  | .idle => none
  | .oneshotTx => none
  | .done => none

/-- R17: `busy`. -/
def State.busy (s : State) : Bool := s.fsm != .idle

/-- R121: `cmd_ready`. -/
def State.cmdReady (s : State) : Bool := s.fsm == .idle

/-- R17: `rsp_valid`. -/
def State.rspValid (s : State) : Bool := s.fsm == .succeeded || s.fsm == .timedOut || s.fsm == .done

/-- R17: an unspecified status, never code 3 (entry 11). -/
def freeStatus (n : Nat) : Status :=
  if Config.freeBit n 7 then .ok else if Config.freeBit n 8 then .timeout else .sent

/-- R17: `rsp_status`, unspecified outside the terminal states. -/
def State.rspStatus (s : State) : Status :=
  match s.fsm with
  | .succeeded => .ok
  | .timedOut => .timeout
  | .done => .sent
  | .idle => freeStatus s.free
  | .flushEntry => freeStatus s.free
  | .pollCheck => freeStatus s.free
  | .pollTx => freeStatus s.free
  | .pollPace => freeStatus s.free
  | .pollRead => freeStatus s.free
  | .resyncTx => freeStatus s.free
  | .resyncSettle => freeStatus s.free
  | .resyncFlush => freeStatus s.free
  | .oneshotTx => freeStatus s.free

end Sys2Proof.Machine
end

