-- ==== Sys2Proof/Safety.lean ====
section
/-! DEFINITION. The terms of the claims: runs, the invariant, the registers that matter in a state, the transitions the table
R140 allows, the resyncs of a run. -/

namespace Sys2Proof.Safety

open Sys2Proof.Machine

/-- `k` steps, stopping at a fault or a refusal. -/
def runN : Nat → State → Host.Outcome State Fault Refusal
  | 0, s => .next s
  | k + 1, s =>
    match step s with
    | .next t => runN k t
    | .fault r => .fault r
    | .refused r => .refused r

/-- The state once this step's input is taken in and before the engine acts: time has passed, frames have arrived, a command
word may have been offered, and between operations another user may have used the transport. -/
def arrived (s : State) : State := s.dropInput.absorb s.nextInput

/-- The engine acts in this step: no reset, and the access or wait of its micro-state ends (R139 (f)). -/
def acting (s : State) : Prop := s.nextInput.reset = none ∧ s.nextInput.pending = false

/-- R123: the micro-states only `read_telemetry` visits. -/
def inRead : FsmState → Bool
  | .pollCheck => true
  | .pollTx => true
  | .pollPace => true
  | .pollRead => true
  | .resyncTx => true
  | .resyncSettle => true
  | .resyncFlush => true
  | .succeeded => true
  | .timedOut => true
  | .idle => false
  | .flushEntry => false
  | .oneshotTx => false
  | .done => false

/-- The invariant of the engine: timestamps of `NOW_W` bits (R12), an operation in its own micro-states (R13, R143, R144),
a request only when asked for (R127), a success with its frame in the receive buffer (R133, R141 (c)), a finished one-shot
operation with its one frame sent (R144). -/
structure Inv (s : State) : Prop where
  startTs_lt : s.session.startTs < 2 ^ s.cfg.1.nowW
  lastResyncTs_lt : s.session.lastResyncTs < 2 ^ s.cfg.1.nowW
  reading : inRead s.fsm = true → s.session.curOp = .readTelemetryOp
  oneshot : s.fsm = .oneshotTx ∨ s.fsm = .done → s.session.curOp ≠ .readTelemetryOp
  requesting : s.fsm = .pollTx → s.session.activeReq = true
  reported : s.fsm = .succeeded → s.rx.hit = true ∧ ∃ r n, decodeReply s.cfg s.rxBytes = some r ∧
    r.address = s.session.targetAddr ∧ s.res = resultsOf r n
  sentLast : s.fsm = .done → ∃ c, cmdOf s.session.curOp = some c ∧
    s.txBuf = encodeFrame s.cfg c s.session.targetAddr ∧ s.env.sent.getLast? = some s.txBuf

/-- R22, R23, U5 to U7: two states agree on every register the current micro-state can still read. In IDLE that is none;
a one-shot operation reads its operation and address, a `read_telemetry` its whole session, SUCCEEDED its results. -/
def sameLive (s t : State) : Prop :=
  s.fsm = t.fsm ∧ s.cfg = t.cfg ∧ s.env = t.env ∧ s.free = t.free ∧
  match s.fsm with
  | .idle => True
  | .timedOut => True
  | .done => True
  | .succeeded => s.res = t.res
  | .oneshotTx => s.session.curOp = t.session.curOp ∧ s.session.targetAddr = t.session.targetAddr
  | .flushEntry =>
    s.session.curOp = t.session.curOp ∧ s.session.targetAddr = t.session.targetAddr ∧
    (s.session.curOp = .readTelemetryOp → s.session = t.session)
  | .pollCheck => s.session = t.session
  | .pollTx => s.session = t.session
  | .pollPace => s.session = t.session
  | .pollRead => s.session = t.session
  | .resyncTx => s.session = t.session
  | .resyncSettle => s.session = t.session
  | .resyncFlush => s.session = t.session

/-- Two outcomes are alike: next states that agree on the live registers, or the same refusal. -/
def sameOutcome : Host.Outcome State Fault Refusal → Host.Outcome State Fault Refusal → Prop
  | .next s, .next t => sameLive s t
  | .refused q, .refused r => q = r
  | .fault _, _ => False
  | .next _, .refused _ => False
  | .next _, .fault _ => False
  | .refused _, .next _ => False
  | .refused _, .fault _ => False

/-- R140: where a micro-state can go by a row of the table. -/
def successors : FsmState → List FsmState
  | .idle => [.flushEntry]
  | .flushEntry => [.flushEntry, .pollCheck, .oneshotTx]
  | .pollCheck => [.timedOut, .resyncTx, .pollTx, .pollPace]
  | .pollTx => [.pollPace]
  | .pollPace => [.pollRead]
  | .pollRead => [.pollCheck, .succeeded]
  | .resyncTx => [.resyncSettle]
  | .resyncSettle => [.resyncFlush]
  | .resyncFlush => [.resyncFlush, .pollTx, .pollPace]
  | .oneshotTx => [.done]
  | .succeeded => [.idle]
  | .timedOut => [.idle]
  | .done => [.idle]

/-- The outside world does nothing but answer: no reset, no frame, and the access or wait ends. -/
def silent (i : Input) : Prop := i.reset = none ∧ i.arrivals = [] ∧ i.pending = false

/-- The next `n` inputs are listed and silent. -/
def silentFor (n : Nat) (s : State) : Prop :=
  n ≤ s.env.inputs.length ∧ ∀ i ∈ s.env.inputs.take n, silent i

/-- R126: the resyncs triggered in `k` steps. -/
def resyncs : Nat → State → Nat
  | 0, _ => 0
  | k + 1, s =>
    match step s with
    | .next t => (if s.fsm = .pollCheck ∧ t.fsm = .resyncTx then 1 else 0) + resyncs k t
    | .fault _ => 0
    | .refused _ => 0

/-- The first `k` steps stay within one operation: no state on the way, the last included, is IDLE. -/
def oneCall (k : Nat) (s : State) : Prop := ∀ j, j ≤ k → ∀ u, runN j s = .next u → u.fsm ≠ .idle

/-- R112, R113: the byte ranges `decode` examines. -/
def examined (cfg : Config) : List (Nat × Nat) :=
  if cfg.1.hasEnergy then cfg.1.ranges else cfg.1.ranges.take 6

/-- R31, R106 to R108: a 32-bit field is there exactly where `present` holds, and is then the four bytes at `i`, the first most
significant. -/
def wideField (b : List Byte) (i : Nat) (present : Prop) (field : Option Wide) : Prop :=
  (present → ∃ w : Wide, field = some w ∧
    w.toNat = 2 ^ 24 * (b.getD i 0).toNat + 2 ^ 16 * (b.getD (i + 1) 0).toNat +
      2 ^ 8 * (b.getD (i + 2) 0).toNat + (b.getD (i + 3) 0).toNat) ∧
  (¬ present → field = none)

/-- R144: the frame of `c` for the address `a` has been sent from `s` and the one-shot operation is done; session, receive
registers and configuration are unchanged. -/
def sentAndDone (s : State) (c : FrameCmd) (a : Byte) (t : State) : Prop :=
  t.fsm = .done ∧ t.txBuf = encodeFrame s.cfg c a ∧
  t.env = { s.env with sent := s.env.sent ++ [encodeFrame s.cfg c a] } ∧
  t.session = s.session ∧ t.rx = s.rx ∧ t.cfg = s.cfg

/-- The relay command does not share class and opcode with a command of the other format (entry 18). -/
def relayApart (cfg : Config) (i : Instr) : Prop :=
  ∀ c a, i = frameInstr c a → csumOff c = 5 → ∀ d, csumOff d = 4 →
    ¬ ((cfg.1.template c).cls = (cfg.1.template d).cls ∧ (cfg.1.template c).opcode = (cfg.1.template d).opcode)

end Sys2Proof.Safety
end

