-- ==== Sys2Proof/Certificates/Slice0/Obligations.lean ====
section
/-! DEFINITION. The statements for the provers, from the numbered rules of the spec. -/

open Sys2Proof Sys2Proof.Machine Sys2Proof.Safety

/-! Encodings (30_encoding.md). -/

/-- R51, R52, vectors W1 to W7 of 95_test_vectors.md: seven command words, written out bit by bit, in two bytes, low
byte first (the model's choice, entry 19). -/
def Obligations.CommandWordsDecodeAsListed : Prop :=
  ∀ cfg : Config,
    decodeOption cfg [0b00000111, 0b00000000] = some (.initializeOp 0x07 false) ∧
    decodeOption cfg [0b00000111, 0b00000001] = some (.enableRelayOp 0x07 false) ∧
    decodeOption cfg [0b00000111, 0b00000010] = some (.disableRelayOp 0x07 false) ∧
    decodeOption cfg [0b00000111, 0b00000011] = some (.readTelemetryOp 0x07 false) ∧
    decodeOption cfg [0b00000111, 0b00000111] = some (.readTelemetryOp 0x07 true) ∧
    decodeOption cfg [0b11111111, 0b00000111] = some (.readTelemetryOp 0xFF true) ∧
    decodeOption cfg [0b00000111, 0b00000101] = some (.enableRelayOp 0x07 true)

/-- R50 to R62: decoding the encoding of a well-formed instruction gives it back, with every operand at every value; for the
two relay frames where their class and opcode are not those of a 4-offset command (R5 (c) allows that clash: entry 18). A
command word as two bytes and the shortest frame of a reply are the model's choices (entries 19, 24). -/
def Obligations.DecodeInvertsEncode : Prop :=
  ∀ (cfg : Config) (i : Instr), i.wellFormed cfg = true → relayApart cfg i →
    decodeOption cfg (encode cfg i) = some i

/-- R60 to R62: whatever the decoder answers is a well-formed instruction. -/
def Obligations.DecodedInstructionsAreWellFormed : Prop :=
  ∀ (cfg : Config) (bytes : List Byte) (i : Instr), decodeOption cfg bytes = some i → i.wellFormed cfg = true

/-- R51 to R57: a command word and an outbound frame have one spelling: what decodes to one is its encoding; that the five
bits above a command word must be zero is the model's choice (entry 19). (A reply has many: R63.) -/
def Obligations.DecodedCommandsHaveOneSpelling : Prop :=
  ∀ (cfg : Config) (bytes : List Byte) (i : Instr), decodeOption cfg bytes = some i →
    (∀ r, i ≠ .telemetryReply r) → encode cfg i = bytes

/-- R87: an encoded frame is never a telemetry reply. -/
def Obligations.EncodedFramesAreNoReply : Prop :=
  ∀ (cfg : Config) (c : FrameCmd) (a : Byte), decodeReply cfg (encodeFrame cfg c a).1 = none

/-! The checksum (40_checksum.md). -/

/-- R70, R73: the sum of the bytes below the offset, modulo 256; refused beyond the length. -/
def Obligations.ChecksumIsTheSumModulo256 : Prop :=
  ∀ (bytes : List Byte) (offset : Nat),
    (offset ≤ bytes.length → ∃ c : Byte, computeChecksum bytes offset = some c ∧
      c.toNat = ((bytes.take offset).map BitVec.toNat).sum % 256) ∧
    (bytes.length < offset → computeChecksum bytes offset = none)

/-- R70, R72: the result depends on the bytes below the offset alone, and not on their order. -/
def Obligations.ChecksumIgnoresOrderAndLaterBytes : Prop :=
  ∀ (b b' : List Byte) (offset : Nat), offset ≤ b.length → offset ≤ b'.length →
    (b.take offset).Perm (b'.take offset) → computeChecksum b offset = computeChecksum b' offset

/-- R71, R73: the checksum is written at the offset, every other byte keeps its value, a second application changes nothing;
refused where there is no byte at the offset. -/
def Obligations.ApplyChecksumWritesOneByte : Prop :=
  ∀ (bytes : List Byte) (offset : Nat),
    (offset < bytes.length → ∃ out : List Byte,
      applyChecksum bytes offset = some out ∧ out.length = bytes.length ∧
      out[offset]? = computeChecksum bytes offset ∧ (∀ j, j ≠ offset → out[j]? = bytes[j]?) ∧
      applyChecksum out offset = some out) ∧
    (bytes.length ≤ offset → applyChecksum bytes offset = none)

/-! The encoder (41_frame_encoder.md). -/

/-- R85. -/
def Obligations.FramesHaveThirtyTwoBytes : Prop :=
  ∀ (cfg : Config) (c : FrameCmd) (a : Byte), (encodeBytes cfg c a).length = 32

/-- R80: a zeroed 32-byte buffer, the head filled in, and `apply_checksum` give the same frame. -/
def Obligations.EncodeIsApplyChecksumOnAZeroedBuffer : Prop :=
  ∀ (cfg : Config) (c : FrameCmd) (a : Byte),
    applyChecksum (headBytes cfg c a ++ List.replicate (32 - csumOff c) 0x00) (csumOff c) = some (encodeBytes cfg c a)

/-- R86: checksum, preamble and padding of every encoded frame. -/
def Obligations.EncodedFramesCarryTheirChecksum : Prop :=
  ∀ (cfg : Config) (c : FrameCmd) (a : Byte),
    (encodeFrame cfg c a).1[csumOff c]? = computeChecksum (encodeFrame cfg c a).1 (csumOff c) ∧
    (encodeFrame cfg c a).1[0]? = some 0xAA ∧
    ∀ j, csumOff c < j → j ≤ 31 → (encodeFrame cfg c a).1[j]? = some 0x00

/-- R39, R53, R81, R84: the two 4-offset frames, byte by byte. -/
def Obligations.InitAndRequestFramesByteByByte : Prop :=
  ∀ (cfg : Config) (a : Byte),
    (∃ s : Byte, s.toNat = (0xAA + cfg.1.init.cls.toNat + cfg.1.init.opcode.toNat + a.toNat) % 256 ∧
      (encodeFrame cfg .init a).1 = [0xAA, cfg.1.init.cls, cfg.1.init.opcode, a, s] ++ List.replicate 27 0x00) ∧
    (∃ b s : Byte, b.toNat = (a.toNat + cfg.1.reqAddrBias.toNat) % 256 ∧
      s.toNat = (0xAA + cfg.1.req.cls.toNat + cfg.1.req.opcode.toNat + b.toNat) % 256 ∧
      (encodeFrame cfg .req a).1 = [0xAA, cfg.1.req.cls, cfg.1.req.opcode, b, s] ++ List.replicate 27 0x00)

/-- R39, R54, R82, R83: the two relay frames, byte by byte. -/
def Obligations.RelayFramesByteByByte : Prop :=
  ∀ (cfg : Config) (a : Byte),
    (∃ p s : Byte, cfg.1.en.payload = [p] ∧
      s.toNat = (0xAA + cfg.1.en.cls.toNat + cfg.1.en.opcode.toNat + a.toNat + p.toNat) % 256 ∧
      (encodeFrame cfg .en a).1 = [0xAA, cfg.1.en.cls, cfg.1.en.opcode, a, p, s] ++ List.replicate 26 0x00) ∧
    (∃ p s : Byte, cfg.1.dis.payload = [p] ∧
      s.toNat = (0xAA + cfg.1.dis.cls.toNat + cfg.1.dis.opcode.toNat + a.toNat + p.toNat) % 256 ∧
      (encodeFrame cfg .dis a).1 = [0xAA, cfg.1.dis.cls, cfg.1.dis.opcode, a, p, s] ++ List.replicate 26 0x00)

/-! The decoder (42_frame_decoder.md). -/

/-- R101, R102, R111: a received frame is a reply exactly when it is long enough and passes the guard. -/
def Obligations.ReplyExactlyWhenLongAndGuarded : Prop :=
  ∀ (cfg : Config) (b : List Byte),
    (decodeReply cfg b).isSome = true ↔
      cfg.1.minReplyLen ≤ b.length ∧ b[1]? = some 0x1c ∧ b[2]? = some 0x01

/-- R59, R103 to R108, R110: the fields of a reply, unsigned, big-endian, the 32-bit ones by length and revision. -/
def Obligations.ReplyFieldsFollowTheLayout : Prop :=
  ∀ (cfg : Config) (b : List Byte) (r : Reply), decodeReply cfg b = some r →
    r.requestType = 0x1c ∧ r.unknown1 = 0x01 ∧ b[cfg.1.addrIdx]? = some r.address ∧
    r.voltageRaw.toNat = 256 * (b.getD cfg.1.vIdx 0).toNat + (b.getD (cfg.1.vIdx + 1) 0).toNat ∧
    r.currentRaw.toNat = 256 * (b.getD cfg.1.iIdx 0).toNat + (b.getD (cfg.1.iIdx + 1) 0).toNat ∧
    wideField b cfg.1.pIdx (cfg.1.pIdx + 4 ≤ b.length) r.power ∧
    wideField b cfg.1.ahIdx (cfg.1.hasEnergy = true ∧ cfg.1.ahIdx + 4 ≤ b.length) r.amphour ∧
    wideField b cfg.1.whIdx (cfg.1.hasEnergy = true ∧ cfg.1.whIdx + 4 ≤ b.length) r.watthour

/-- R63, R64, R112, R113: two frames of one length that agree on every examined byte decode alike. -/
def Obligations.DecodeSeesOnlyExaminedBytes : Prop :=
  ∀ (cfg : Config) (b b' : List Byte), b.length = b'.length →
    (∀ p ∈ examined cfg, ∀ i, p.1 ≤ i → i < p.1 + p.2 → b[i]? = b'[i]?) →
    decodeReply cfg b = decodeReply cfg b'

/-- R109: the value of a field is exactly `raw / DIV`, shown as an integer part and a fraction below the divisor; the
source's example, 1250 is 12.50 V. -/
def Obligations.ScaledValuesAreExact : Prop :=
  (∀ (f : Field) (raw : Nat), f.value raw * (f.divisor : Rat) = (raw : Rat) ∧
    f.intPart raw * f.divisor + f.fracPart raw = raw ∧ f.fracPart raw < f.divisor ∧
    f.divisor = 10 ^ f.fracDigits) ∧
  Field.voltage.divisor = 100 ∧ Field.current.divisor = 100 ∧ Field.power.divisor = 1000 ∧
  Field.amphour.divisor = 1000 ∧ Field.watthour.divisor = 1000 ∧
  Field.voltage.intPart 1250 = 12 ∧ Field.voltage.fracPart 1250 = 50

/-! The host operations (43_protocol_fsm.md sections 2 and 4). -/

/-- R121, R124: in IDLE `read_telemetry` is accepted: its word is latched, both timestamps are one sample of `now`, the flush
begins; nothing else changes. -/
def Obligations.ReadTelemetryIsAccepted : Prop :=
  ∀ (s : State) (a : Byte) (active : Bool), s.fsm = .idle →
    exec (.readTelemetryOp a active) s = .next { s with
      fsm := .flushEntry
      session := { curOp := .readTelemetryOp, targetAddr := a, activeReq := active, startTs := s.now, lastResyncTs := s.now } }

/-- R12, R13, R121: in IDLE a one-shot operation is accepted: its word is latched, no timestamp is written, the flush begins;
nothing else changes. -/
def Obligations.OneShotsAreAccepted : Prop :=
  ∀ (s : State) (a : Byte) (active : Bool), s.fsm = .idle →
    exec (.initializeOp a active) s = .next { s with
      fsm := .flushEntry
      session := { s.session with curOp := .initializeOp, targetAddr := a, activeReq := active } } ∧
    exec (.enableRelayOp a active) s = .next { s with
      fsm := .flushEntry
      session := { s.session with curOp := .enableRelayOp, targetAddr := a, activeReq := active } } ∧
    exec (.disableRelayOp a active) s = .next { s with
      fsm := .flushEntry
      session := { s.session with curOp := .disableRelayOp, targetAddr := a, activeReq := active } }

/-- R121: outside IDLE no command is accepted, the operation in progress is not disturbed, and the waiting words are neither
queued nor dropped by the engine (that they wait in a list, in order, is the model's choice, entry 16). -/
def Obligations.BusyEngineAcceptsNoCommand : Prop :=
  (∀ (s : State) (w : CommandWord), s.fsm ≠ .idle → exec (decodeCommand w) s = .next s) ∧
  ∀ s t : State, s.fsm ≠ .idle → step s = .next t →
    t.env.commands = s.env.commands ++ s.nextInput.command.toList

/-- R51, D36: the active bit of a one-shot operation is ignored: with it or without it the outcomes agree on every register
that can still be read (`UnspecifiedRegistersAreNeverRead` carries that to every later step). -/
def Obligations.ActiveBitIsIgnoredByOneShots : Prop :=
  ∀ (s : State) (a : Byte),
    sameOutcome (exec (.initializeOp a true) s) (exec (.initializeOp a false) s) ∧
    sameOutcome (exec (.enableRelayOp a true) s) (exec (.enableRelayOp a false) s) ∧
    sameOutcome (exec (.disableRelayOp a true) s) (exec (.disableRelayOp a false) s)

/-! The frame commands. -/

/-- R84, R127, R36: in POLL_TX the request is encoded into `tx_buf` and handed to the transport; then POLL_PACE; nothing
else changes. -/
def Obligations.RequestIsTransmittedInPollTx : Prop :=
  ∀ (s : State) (a : Byte), s.fsm = .pollTx →
    exec (.requestTelemetry a) s = .next { s with
      fsm := .pollPace
      txBuf := encodeFrame s.cfg .req a
      env := { s.env with sent := s.env.sent ++ [encodeFrame s.cfg .req a] } }

/-- R81, R130, R36: in RESYNC_TX the `InitializeSensor` frame is encoded into `tx_buf` and handed to the transport; then
RESYNC_SETTLE; nothing else changes, the session's start least of all. -/
def Obligations.ResyncFrameIsTransmittedInResyncTx : Prop :=
  ∀ (s : State) (a : Byte), s.fsm = .resyncTx →
    exec (.initializeSensor a) s = .next { s with
      fsm := .resyncSettle
      txBuf := encodeFrame s.cfg .init a
      env := { s.env with sent := s.env.sent ++ [encodeFrame s.cfg .init a] } }

/-- R81 to R83, R144, R36: in ONESHOT_TX the frame of the operation is encoded into `tx_buf` and handed to the transport;
then DONE. Session, receive registers and configuration are unchanged; the results are unspecified (R16). -/
def Obligations.OneShotFrameIsTransmitted : Prop :=
  ∀ (s : State) (a : Byte), s.fsm = .oneshotTx →
    (s.session.curOp = .initializeOp →
      ∃ t : State, exec (.initializeSensor a) s = .next t ∧ sentAndDone s .init a t) ∧
    (s.session.curOp = .enableRelayOp → ∃ t : State, exec (.enableRelay a) s = .next t ∧ sentAndDone s .en a t) ∧
    (s.session.curOp = .disableRelayOp → ∃ t : State, exec (.disableRelay a) s = .next t ∧ sentAndDone s .dis a t)

/-- R140 ("There is no other transition"), the model's own reading, entry 14: a frame command does nothing in a micro-state
that does not transmit it. -/
def Obligations.FrameCommandsElsewhereDoNothing : Prop :=
  ∀ (s : State) (c : FrameCmd) (a : Byte), s.txCommand ≠ some c → exec (frameInstr c a) s = .next s

/-- R127, R130, R144: a transmit state sends the frame of its command for `target_addr` and goes to its one successor: POLL_TX
the request, RESYNC_TX the `InitializeSensor` frame without touching `start_ts`, ONESHOT_TX the frame of its operation. -/
def Obligations.TransmitStatesSendTheirCommand : Prop :=
  (∀ s : State, (s.fsm = .pollTx → s.txCommand = some .req) ∧ (s.fsm = .resyncTx → s.txCommand = some .init) ∧
    (s.fsm = .oneshotTx → s.txCommand = cmdOf s.session.curOp)) ∧
  ∀ (s : State) (c : FrameCmd), acting s → s.txCommand = some c →
    ∃ t : State, step s = .next t ∧
      t.fsm = (if s.fsm = .pollTx then .pollPace else if s.fsm = .resyncTx then .resyncSettle else .done) ∧
      t.txBuf = encodeFrame s.cfg c s.session.targetAddr ∧ t.session = s.session ∧ t.rx = s.rx ∧ t.cfg = s.cfg ∧
      t.env = { (arrived s).env with sent := s.env.sent ++ [encodeFrame s.cfg c s.session.targetAddr] }

/-! The telemetry reply. -/

/-- R129, R133: in POLL_READ a reply from the target is reported: the result registers take its fields, an absent field's
valid flag is 0, its raw value unspecified (a free value, entry 9, of which nothing is said); nothing else changes. -/
def Obligations.MatchingReplyIsReported : Prop :=
  ∀ (s : State) (r : Reply), s.fsm = .pollRead → r.address = s.session.targetAddr →
    ∃ t : State, exec (.telemetryReply r) s = .next t ∧ t.fsm = .succeeded ∧
      t.res.requestType = r.requestType ∧ t.res.unknown1 = r.unknown1 ∧ t.res.address = r.address ∧
      t.res.voltageRaw = r.voltageRaw ∧ t.res.currentRaw = r.currentRaw ∧
      t.res.powerValid = r.power.isSome ∧ (∀ w, r.power = some w → t.res.powerRaw = w) ∧
      t.res.amphourValid = r.amphour.isSome ∧ (∀ w, r.amphour = some w → t.res.amphourRaw = w) ∧
      t.res.watthourValid = r.watthour.isSome ∧ (∀ w, r.watthour = some w → t.res.watthourRaw = w) ∧
      t.session = s.session ∧ t.txBuf = s.txBuf ∧ t.rx = s.rx ∧ t.cfg = s.cfg ∧ t.env = s.env

/-- R129, R61: in POLL_READ a reply from another address is dropped; the next iteration begins, nothing else changes. -/
def Obligations.ForeignReplyIsDropped : Prop :=
  ∀ (s : State) (r : Reply), s.fsm = .pollRead → r.address ≠ s.session.targetAddr →
    exec (.telemetryReply r) s = .next { s with fsm := .pollCheck }

/-- R122, R164, the model's own reading, entry 15: outside POLL_READ a reply is no event for the engine. -/
def Obligations.RepliesElsewhereAreNoEvent : Prop :=
  ∀ (s : State) (r : Reply), s.fsm ≠ .pollRead → exec (.telemetryReply r) s = .next s

/-! One step of the engine. -/

/-- R121, R127, R129, R130, R144: a step runs the instruction it fetches: in IDLE the oldest waiting command word, in a
transmit state the frame command for the target address, in POLL_READ the frame it has just read, where that is a reply. That the step's input
comes before its action is the model's choice (entry 17). -/
def Obligations.StepRunsTheFetchedInstruction : Prop :=
  (∀ (s : State) (w : CommandWord) (rest : List CommandWord), acting s → s.fsm = .idle →
    (arrived s).env.commands = w :: rest →
    step s = exec (decodeCommand w) { arrived s with env := { (arrived s).env with commands := rest } }) ∧
  (∀ (s : State) (c : FrameCmd), acting s → s.txCommand = some c →
    step s = exec (frameInstr c s.session.targetAddr) (arrived s)) ∧
  (∀ (s : State) (f : RxFrame) (q : List RxFrame) (r : Reply), acting s → s.fsm = .pollRead →
    (arrived s).env.rxQueue = f :: q → decodeReply s.cfg f.1 = some r →
    step s = exec (.telemetryReply r) ((arrived s).rxRead s.cfg.1.tRead))

/-- R121, R180: in IDLE with no command word offered the engine waits (the input's order: entry 17). -/
def Obligations.IdleWaitsForACommand : Prop :=
  ∀ s : State, s.nextInput.reset = none → s.fsm = .idle → (arrived s).env.commands = [] → step s = .next (arrived s)

/-- R61, R129, R162: in POLL_READ a miss, and a frame that is no reply, end in the next iteration; the frame has left the
queue, and no other register than the receive registers changes. (A read that finds no frame in the queue is a miss after at
least its timeout: the model's form of the transport, entry 4.) -/
def Obligations.NoiseAndMissesStartTheNextIteration : Prop :=
  ∀ s : State, acting s → s.fsm = .pollRead →
    ((arrived s).env.rxQueue = [] → step s = .next (((arrived s).rxRead s.cfg.1.tRead).setFsm .pollCheck)) ∧
    (∀ (f : RxFrame) (q : List RxFrame), (arrived s).env.rxQueue = f :: q → decodeReply s.cfg f.1 = none →
      step s = .next (((arrived s).rxRead s.cfg.1.tRead).setFsm .pollCheck))

/-- R125, R126, R127, R165 (a), R166: POLL_CHECK with one sample of `now`: beyond the deadline it reports the timeout and sends
nothing; else beyond the resync threshold it resyncs; else it goes on with the iteration. -/
def Obligations.PollCheckTestsDeadlineThenResync : Prop :=
  ∀ s : State, s.nextInput.reset = none → s.fsm = .pollCheck →
    (elapsed s.cfg (arrived s).now s.session.startTs > s.cfg.1.tDeadline →
      ∃ t : State, step s = .next t ∧ t.fsm = .timedOut ∧ t.session = s.session ∧ t.txBuf = s.txBuf ∧ t.rx = s.rx ∧
        t.cfg = s.cfg ∧ t.env = (arrived s).env) ∧
    (elapsed s.cfg (arrived s).now s.session.startTs ≤ s.cfg.1.tDeadline →
      (elapsed s.cfg (arrived s).now s.session.lastResyncTs > s.cfg.1.tResync →
        step s = .next ((arrived s).setFsm .resyncTx)) ∧
      (elapsed s.cfg (arrived s).now s.session.lastResyncTs ≤ s.cfg.1.tResync →
        step s = .next ((arrived s).setFsm (if s.session.activeReq then .pollTx else .pollPace))))

/-- R143: FLUSH_ENTRY. -/
def Obligations.FlushEntryReadsUntilAMiss : Prop :=
  ∀ s : State, acting s → s.fsm = .flushEntry →
    ((arrived s).env.rxQueue ≠ [] → step s = .next ((arrived s).rxRead 0)) ∧
    ((arrived s).env.rxQueue = [] → s.session.curOp = .readTelemetryOp →
      step s = .next (((arrived s).rxRead 0).setFsm .pollCheck)) ∧
    ((arrived s).env.rxQueue = [] → s.session.curOp ≠ .readTelemetryOp →
      step s = .next (((arrived s).rxRead 0).setFsm .oneshotTx))

/-- R132: RESYNC_FLUSH; at the final miss `last_resync_ts` is the `now` of that moment. -/
def Obligations.ResyncFlushEndsTheResync : Prop :=
  ∀ s : State, acting s → s.fsm = .resyncFlush →
    ((arrived s).env.rxQueue ≠ [] → step s = .next ((arrived s).rxRead 0)) ∧
    ((arrived s).env.rxQueue = [] → step s = .next { (arrived s).rxRead 0 with
      fsm := if s.session.activeReq then .pollTx else .pollPace
      session := { s.session with lastResyncTs := ((arrived s).rxRead 0).now } })

/-- R128, R131, R139 (b): the two waits, each no shorter than its duration; nothing but time and control changes. -/
def Obligations.PaceAndSettleWaitTheirTime : Prop :=
  ∀ s : State, acting s →
    (s.fsm = .pollPace → step s = .next (((arrived s).advance s.cfg.1.tPace).setFsm .pollRead)) ∧
    (s.fsm = .resyncSettle → step s = .next (((arrived s).advance s.cfg.1.tSettle).setFsm .resyncFlush))

/-- R15, R37, R139 (c): `RxRead(t)`: a hit takes the oldest frame, a miss happens only when there is none and takes at least
`t` ticks; nothing but the receive registers, the queue and time changes. (The queue is the model's form of the transport,
entry 4.) -/
def Obligations.ReadTakesTheOldestFrameOrTheTimeout : Prop :=
  ∀ (s : State) (t : Nat),
    (∀ (f : RxFrame) (q : List RxFrame), s.env.rxQueue = f :: q →
      (s.rxRead t).rx.hit = true ∧ (s.rxRead t).rx.len.val = f.1.length ∧ (s.rxRead t).rxBytes = f.1 ∧
      (s.rxRead t).env = { s.env with rxQueue := q }) ∧
    (s.env.rxQueue = [] → (s.rxRead t).rx.hit = false ∧ (s.rxRead t).env = { s.env with time := s.env.time + t }) ∧
    (s.rxRead t).fsm = s.fsm ∧ (s.rxRead t).session = s.session ∧ (s.rxRead t).txBuf = s.txBuf ∧
    (s.rxRead t).res = s.res ∧ (s.rxRead t).cfg = s.cfg

/-- R122: given N queued frames followed by silence, a flush issues exactly N+1 reads, N hits and 1 miss, before it goes on. -/
def Obligations.FlushIssuesOneReadMoreThanFrames : Prop :=
  ∀ s : State, s.fsm = .flushEntry → silentFor (s.env.rxQueue.length + 1) s →
    (∀ k, k ≤ s.env.rxQueue.length → ∃ t : State, runN k s = .next t ∧ t.fsm = .flushEntry ∧
      t.env.rxQueue = s.env.rxQueue.drop k ∧ t.session = s.session) ∧
    ∃ t : State, runN (s.env.rxQueue.length + 1) s = .next t ∧ t.env.rxQueue = [] ∧ t.session = s.session ∧
      t.env.sent = s.env.sent ∧
      t.fsm = if s.session.curOp = .readTelemetryOp then .pollCheck else .oneshotTx

/-- R135 to R137, R141 (a), R144: a one-shot operation from IDLE: with N frames queued once the step's input is in, and silence
after them, it is over N+3 steps later, in DONE, with exactly one frame sent, the one of its command and address, and the
stale frames dropped, whoever left them (R184). One input a step, before its
action, is the model's choice (entry 17). -/
def Obligations.OneShotRunsToSent : Prop :=
  ∀ (s : State) (op : HostOp) (c : FrameCmd) (a : Byte) (active : Bool) (rest : List CommandWord),
    s.fsm = .idle → s.env.commands = commandWord op a active :: rest → cmdOf op = some c →
    silentFor ((arrived s).env.rxQueue.length + 3) s →
    ∃ t : State, runN ((arrived s).env.rxQueue.length + 3) s = .next t ∧ t.fsm = .done ∧ t.rspStatus = .sent ∧
      t.txBuf = encodeFrame s.cfg c a ∧ t.env.sent = (arrived s).env.sent ++ [encodeFrame s.cfg c a] ∧
      t.env.rxQueue = [] ∧
      t.session.startTs = s.session.startTs ∧ t.session.lastResyncTs = s.session.lastResyncTs

/-- R138, R167, R188: a terminal state holds its response until the host takes it; then IDLE. Neither touches the transport's
channels or the waiting commands. -/
def Obligations.ResponseIsHeldUntilTaken : Prop :=
  ∀ s : State, s.nextInput.reset = none → s.rspValid = true →
    (s.nextInput.rspReady = false → step s = .next (arrived s)) ∧
    (s.nextInput.rspReady = true → ∃ t : State, step s = .next t ∧ t.fsm = .idle ∧ t.cfg = s.cfg ∧
      t.env = (arrived s).env)

/-! Rules of the whole machine. -/

/-- R134, R141 (d), R161: only the deadline test reports a timeout, and only when more than `T_DEADLINE` ticks have passed. -/
def Obligations.OnlyTheDeadlineTestTimesOut : Prop :=
  ∀ s t : State, step s = .next t → t.fsm = .timedOut → s.fsm ≠ .timedOut →
    s.fsm = .pollCheck ∧ elapsed s.cfg t.now s.session.startTs > s.cfg.1.tDeadline

/-- R133, R141 (c): only POLL_READ succeeds, and only with a frame that decodes to a reply of the target. -/
def Obligations.OnlyAMatchingReadSucceeds : Prop :=
  ∀ s t : State, step s = .next t → t.fsm = .succeeded → s.fsm ≠ .succeeded →
    s.fsm = .pollRead ∧ ∃ (f : RxFrame) (r : Reply), (arrived s).env.rxQueue.head? = some f ∧
      decodeReply s.cfg f.1 = some r ∧ r.address = s.session.targetAddr ∧
      t.res.requestType = 0x1c ∧ t.res.unknown1 = 0x01 ∧ t.res.address = s.session.targetAddr ∧
      t.session = s.session

/-- R36, R41 (a), R44, R184: outside a reset a step of the engine hands over at most one frame, only in a transmit state, and it
is the encoded command of that state for the target address; in IDLE the channel grows by another user's frames alone. -/
def Obligations.OnlyTransmitStatesSend : Prop :=
  ∀ s t : State, step s = .next t → s.nextInput.reset = none →
    (s.fsm = .idle → t.env.sent = s.env.sent ++ s.nextInput.otherWrites) ∧
    (s.fsm ≠ .idle → t.env.sent = s.env.sent ∨
      ∃ c : FrameCmd, s.txCommand = some c ∧ t.txBuf = encodeFrame s.cfg c s.session.targetAddr ∧
        t.env.sent = s.env.sent ++ [encodeFrame s.cfg c s.session.targetAddr])

/-- R184: another user of the transport acts between operations only: while the engine is busy its reads and writes are no part
of the step; in IDLE it takes frames from the head of the queue and appends its own to the transmit channel, whatever else the
step does. (How its use is written as an input is the model's choice, entry 25.) -/
def Obligations.OtherUsersActBetweenOperationsOnly : Prop :=
  (∀ (s : State) (i : Input) (rest : List Input) (n : Nat) (w : List Frame), s.fsm ≠ .idle →
    step { s with env := { s.env with inputs := { i with otherReads := n, otherWrites := w } :: rest } } =
      step { s with env := { s.env with inputs := i :: rest } }) ∧
  ∀ s t : State, s.fsm = .idle → step s = .next t →
    t.env.rxQueue = (s.env.rxQueue ++ s.nextInput.arrivals).drop s.nextInput.otherReads ∧
    t.env.sent = s.env.sent ++ s.nextInput.otherWrites

/-- R141 (b), R123 (a): a `read_telemetry` without active requests transmits only in a resync. -/
def Obligations.PassiveReadSendsOnlyInAResync : Prop :=
  ∀ s t : State, Inv s → s.fsm ≠ .idle → s.session.curOp = .readTelemetryOp → s.session.activeReq = false →
    s.nextInput.reset = none → step s = .next t → t.env.sent ≠ s.env.sent → s.fsm = .resyncTx

/-- R18, R45, R194: no step changes the configuration. -/
def Obligations.ConfigurationIsConstant : Prop := ∀ s t : State, step s = .next t → t.cfg = s.cfg

/-- R19, R139 (a): no step sets the timebase back, and each takes at least the delay of its input. -/
def Obligations.TimeNeverRunsBack : Prop :=
  ∀ s t : State, step s = .next t → s.env.time + s.nextInput.delay ≤ t.env.time

/-- R37, R41 (b), R184: the receive queue is first in, first out: a step adds what arrived at the end; the engine takes at most
the head, and only in a state that reads; another user takes from the head, and only in IDLE. -/
def Obligations.ReceiveQueueIsFifo : Prop :=
  ∀ s t : State, step s = .next t →
    (s.fsm ≠ .idle → t.env.rxQueue = s.env.rxQueue ++ s.nextInput.arrivals ∨
      (s.fsm.reads = true ∧ t.env.rxQueue = (s.env.rxQueue ++ s.nextInput.arrivals).tail)) ∧
    (s.fsm = .idle → t.env.rxQueue = (s.env.rxQueue ++ s.nextInput.arrivals).drop s.nextInput.otherReads)

/-- R120, R140, U12: no transition but those of the table, a reset, and staying where an access, a command or a response is
awaited (the bit `pending` that holds an access or a wait is the model's, entry 13). -/
def Obligations.OnlyTableTransitions : Prop :=
  ∀ s t : State, step s = .next t →
    t.fsm ∈ successors s.fsm ∨ (s.nextInput.reset ≠ none ∧ t.fsm = .idle) ∨
    (t.fsm = s.fsm ∧ (s.fsm = .idle ∨ s.rspValid = true ∨ (s.nextInput.pending = true ∧ s.fsm.waits = true)))

/-- R12, R123, R130: while an operation runs, its operation, address, active bit and start never change, and the last resync
time changes only at the end of a resync. -/
def Obligations.SessionIsFixedDuringAnOperation : Prop :=
  ∀ s t : State, step s = .next t → s.nextInput.reset = none → s.fsm ≠ .idle → t.fsm ≠ .idle →
    t.session.curOp = s.session.curOp ∧ t.session.targetAddr = s.session.targetAddr ∧
    t.session.activeReq = s.session.activeReq ∧ t.session.startTs = s.session.startTs ∧
    (s.fsm ≠ .resyncFlush → t.session.lastResyncTs = s.session.lastResyncTs)

/-- R12, R13, R133, R144: the invariant holds after reset (of the timestamps the spec gives no reset value, entry 7; it says
no more than that they fit their width). -/
def Obligations.InvariantHoldsAtReset : Prop := Inv State.reset

/-- R12, R13, R127, R133, R143, R144: every step keeps the invariant. -/
def Obligations.StepsKeepTheInvariant : Prop := ∀ s t : State, Inv s → step s = .next t → Inv t

/-- R160: under the invariant the engine always has a next state: it never faults and never stops. -/
def Obligations.EngineNeverStops : Prop := ∀ s : State, Inv s → ∃ t : State, step s = .next t

/-- R22, R23, U5 to U7: no rule reads an unspecified register: states that agree on the live registers take steps to states
that agree on theirs, so an operation depends on no earlier one but through the environment. -/
def Obligations.UnspecifiedRegistersAreNeverRead : Prop :=
  ∀ s t : State, sameLive s t → sameOutcome (step s) (step t)

/-- R141 (f), C9: one `read_telemetry` call that lasts less than 2^NOW_W ticks triggers at most floor((T_DEADLINE - 1) / T_RESYNC)
resyncs. -/
def Obligations.ResyncsOfOneCallAreBounded : Prop :=
  ∀ (s t : State) (k : Nat), s.fsm = .flushEntry → s.session.curOp = .readTelemetryOp →
    s.session.startTs = s.now → s.session.lastResyncTs = s.now → oneCall k s → runN k s = .next t →
    t.env.time < s.env.time + 2 ^ s.cfg.1.nowW →
    resyncs k s ≤ (s.cfg.1.tDeadline - 1) / s.cfg.1.tResync

/-- R141 (e), R185: within one operation a polling read separates two resyncs. -/
def Obligations.PollingReadSeparatesResyncs : Prop :=
  ∀ (s t : State) (k : Nat), s.fsm = .resyncTx → runN (k + 1) s = .next t → t.fsm = .resyncTx → oneCall (k + 1) s →
    (∃ j, j ≤ k ∧ ∃ u : State, runN j s = .next u ∧ u.fsm = .resyncSettle) →
    ∃ j, j ≤ k ∧ ∃ u : State, runN j s = .next u ∧ u.fsm = .pollRead

/-- R145, R139 (e), R141 (d): on a silent link with a positive pace or read time `read_telemetry` ends in TIMEDOUT, on every
schedule: from its entry flush with any frames queued, or from POLL_CHECK with none, there is a number of steps within which,
however much time each step takes and whatever the host does, the engine is in TIMEDOUT, or the call has lasted 2^NOW_W ticks,
which R142 and R195 rule out. -/
def Obligations.SilentLinkTimesOut : Prop :=
  ∀ s : State, s.session.curOp = .readTelemetryOp →
    s.fsm = .flushEntry ∨ (s.fsm = .pollCheck ∧ s.env.rxQueue = []) →
    0 < s.cfg.1.tPace + s.cfg.1.tRead →
    ∃ n, ∀ inputs : List Input, n ≤ inputs.length → (∀ i ∈ inputs, silent i) →
      ∃ (k : Nat) (t : State), k ≤ n ∧ runN k { s with env := { s.env with inputs := inputs } } = .next t ∧
        (t.fsm = .timedOut ∨
          s.env.time + 2 ^ s.cfg.1.nowW ≤ t.env.time + elapsed s.cfg s.now s.session.startTs)

/-! Reset and flags (70_reset_and_hazards.md, 10_state.md). -/

/-- R22, R180: after reset the engine is in IDLE, ready for a command, not busy, with no response. -/
def Obligations.ResetLeavesTheEngineReady : Prop :=
  State.reset.fsm = .idle ∧ State.reset.busy = false ∧ State.reset.rspValid = false ∧ State.reset.cmdReady = true

/-- R180, R181, U16: a reset event abandons the operation from every state: IDLE, no response, configuration, time and waiting
commands untouched; an access outstanding at that moment took effect as a whole or not at all (the bit `took` is the model's, entry 12). -/
def Obligations.ResetEventAbandonsTheOperation : Prop :=
  ∀ (s : State) (took : Bool), s.nextInput.reset = some took →
    ∃ t : State, step s = .next t ∧ t.fsm = .idle ∧ t.rspValid = false ∧ t.cmdReady = true ∧ t.cfg = s.cfg ∧
      t.env.time = (arrived s).env.time ∧ t.env.commands = (arrived s).env.commands ∧
      (took = false → t.env = (arrived s).env) ∧
      (∀ c, took = true → s.txCommand = some c → t.env.rxQueue = (arrived s).env.rxQueue ∧
        t.env.sent = s.env.sent ++ [encodeFrame s.cfg c s.session.targetAddr]) ∧
      (took = true → s.fsm.reads = true → t.env.sent = s.env.sent ∧ t.env.rxQueue = (arrived s).env.rxQueue.tail) ∧
      (took = true → s.txCommand = none → s.fsm.reads = false → t.env = (arrived s).env)

/-- R17, R121: the flags are functions of `fsm_state`; in the terminal states the status is OK (0), TIMEOUT (1) or SENT (2), and
code 3 is never produced. -/
def Obligations.StatusFlagsFollowTheState : Prop :=
  ∀ s : State,
    (s.busy = true ↔ s.fsm ≠ .idle) ∧ (s.cmdReady = true ↔ s.fsm = .idle) ∧
    (s.rspValid = true ↔ s.fsm = .succeeded ∨ s.fsm = .timedOut ∨ s.fsm = .done) ∧
    (s.fsm = .succeeded → s.rspStatus.code = 0) ∧ (s.fsm = .timedOut → s.rspStatus.code = 1) ∧
    (s.fsm = .done → s.rspStatus.code = 2) ∧ s.rspStatus.code ≠ 3
end

