-- ==== Sys2Proof/Laws/Codec.lean ====
section
/-! SUPPORT. What the buffer accesses, the encoder and the decoder give, one lemma a function; the layout facts of a
configuration. -/

namespace Sys2Proof.Machine

/-- R35: a read inside the bounds. -/
theorem memRead_some (buf : List Byte) (i n : Nat) (h : i + n ≤ buf.length) :
    memRead buf i n = some ((buf.drop i).take n) := by simp [memRead, h]

/-- R35: a read outside the bounds is refused. -/
theorem memRead_none (buf : List Byte) (i n : Nat) (h : buf.length < i + n) : memRead buf i n = none := by
  simp [memRead]; omega

/-- R31: a 16-bit field, most significant byte first. -/
theorem be16_some (b : List Byte) (i : Nat) (h : i + 1 < b.length) :
    be16 b i = some (BitVec.ofNat 16 (256 * b[i].toNat + b[i + 1].toNat)) := by
  rw [be16, memRead_some b i 2 (by omega), List.drop_eq_getElem_cons (by omega), List.drop_eq_getElem_cons h]
  simp only [Option.map_some, List.take, beNat, List.foldl_cons, List.foldl_nil, Nat.mul_zero, Nat.zero_add]

/-- R31: a 32-bit field, most significant byte first. -/
theorem be32_some (b : List Byte) (i : Nat) (h : i + 3 < b.length) :
    be32 b i = some (BitVec.ofNat 32
      (256 * (256 * (256 * b[i].toNat + b[i + 1].toNat) + b[i + 2].toNat) + b[i + 3].toNat)) := by
  rw [be32, memRead_some b i 4 (by omega), List.drop_eq_getElem_cons (by omega),
    List.drop_eq_getElem_cons (by omega), List.drop_eq_getElem_cons (by omega), List.drop_eq_getElem_cons h]
  simp only [Option.map_some, List.take, beNat, List.foldl_cons, List.foldl_nil, Nat.mul_zero, Nat.zero_add]

/-- R5 (d): the two guard bytes, the address, the voltage and the current lie below the least reply length. -/
theorem unconditional_lt (cfg : Config) : rtIdx < cfg.1.minReplyLen ∧ u1Idx < cfg.1.minReplyLen ∧
    cfg.1.addrIdx < cfg.1.minReplyLen ∧ cfg.1.vIdx + 1 < cfg.1.minReplyLen ∧ cfg.1.iIdx + 1 < cfg.1.minReplyLen := by
  obtain ⟨ha, hv, hi, hm, -⟩ := cfg.2.2.2.2.1
  exact ⟨by simp only [rtIdx]; omega, by simp only [u1Idx]; omega, ha, hv, hi⟩

/-- R100: the decoder on a frame that passes the length test. -/
theorem decodeReply_long (cfg : Config) (b : List Byte) (h : cfg.1.minReplyLen ≤ b.length)
    (hr : rtIdx < b.length) (hu : u1Idx < b.length) (ha : cfg.1.addrIdx < b.length) (hv : cfg.1.vIdx + 1 < b.length)
    (hi : cfg.1.iIdx + 1 < b.length) :
    decodeReply cfg b =
      if guardHolds b[rtIdx] b[u1Idx] then
        some { requestType := b[rtIdx], unknown1 := b[u1Idx], address := b[cfg.1.addrIdx]
               voltageRaw := BitVec.ofNat 16 (256 * b[cfg.1.vIdx].toNat + b[cfg.1.vIdx + 1].toNat)
               currentRaw := BitVec.ofNat 16 (256 * b[cfg.1.iIdx].toNat + b[cfg.1.iIdx + 1].toNat)
               power := powerField cfg b, amphour := amphourField cfg b, watthour := watthourField cfg b }
      else none := by
  unfold decodeReply
  rw [if_neg (by omega), List.getElem?_eq_getElem hr, List.getElem?_eq_getElem hu, List.getElem?_eq_getElem ha,
    be16_some _ _ hv, be16_some _ _ hi]

/-- R101: the decoder on a frame that is too short. -/
theorem decodeReply_short (cfg : Config) (b : List Byte) (h : b.length < cfg.1.minReplyLen) :
    decodeReply cfg b = none := by simp [decodeReply, h]

/-- R102: a reply carries the guard's two bytes. -/
theorem decodeReply_guard (cfg : Config) (b : List Byte) (r : Reply) (h : decodeReply cfg b = some r) :
    r.requestType = guardRt ∧ r.unknown1 = guardU1 := by
  unfold decodeReply at h
  split at h
  · cases h
  split at h
  · split at h
    · next hg =>
      simp only [guardHolds, Bool.and_eq_true, beq_iff_eq] at hg
      cases h
      exact hg
    · cases h
  · cases h

/-- R31: a byte inside a field. -/
theorem fieldByte_hit (v width start j : Nat) (h : j < width) :
    fieldByte v width start (start + j) = some (BitVec.ofNat 8 (v / 256 ^ (width - 1 - j))) := by
  simp [fieldByte]; omega

/-- R31: a byte outside a field. -/
theorem fieldByte_miss (v width start i : Nat) (h : i < start ∨ start + width ≤ i) :
    fieldByte v width start i = none := by
  simp [fieldByte]; omega

/-- R5 (d): two fields of the reply do not overlap. -/
theorem ranges_apart (cfg : Config) : cfg.1.ranges.Pairwise fun a b => a.1 + a.2 ≤ b.1 ∨ b.1 + b.2 ≤ a.1 :=
  cfg.2.2.2.2.1.2.2.2.2.2.2.2

/-- R5 (d): the 32-bit fields lie in the buffer. -/
theorem wide_lt (cfg : Config) : cfg.1.pIdx + 4 ≤ 32 ∧ cfg.1.ahIdx + 4 ≤ 32 ∧ cfg.1.whIdx + 4 ≤ 32 :=
  ⟨cfg.2.2.2.2.1.2.2.2.2.1, cfg.2.2.2.2.1.2.2.2.2.2.1, cfg.2.2.2.2.1.2.2.2.2.2.2.1⟩

/-- R51: bits 9:8 of a command word are its operation. -/
theorem cmdOp_commandWord (op : HostOp) (a : Byte) (act : Bool) : cmdOp (commandWord op a act) = op := by
  have h : (commandWord op a act).extractLsb' 8 2 = op.code := by
    ext i hi
    simp only [commandWord, BitVec.getElem_extractLsb', BitVec.getLsbD_append]
    rw [if_neg (by omega), if_pos (by omega), Nat.add_sub_cancel_left, BitVec.getLsbD_eq_getElem hi]
  rw [cmdOp, h]; cases op <;> rfl

/-- R51: bits 7:0 are its address. -/
theorem cmdAddr_commandWord (op : HostOp) (a : Byte) (act : Bool) : cmdAddr (commandWord op a act) = a := by
  ext i hi
  simp only [cmdAddr, commandWord, BitVec.getElem_extractLsb', BitVec.getLsbD_append]
  rw [if_pos (by omega), Nat.zero_add, BitVec.getLsbD_eq_getElem hi]

/-- R51: bit 10 is its active bit. -/
theorem cmdActive_commandWord (op : HostOp) (a : Byte) (act : Bool) : cmdActive (commandWord op a act) = act := by
  simp only [cmdActive, commandWord, BitVec.getLsbD_append]; simp

/-- R51: the two bytes of a command word give it back. -/
theorem decodeCommandBytes_commandBytes (w : CommandWord) :
    decodeCommandBytes (w.extractLsb' 0 8) ((w.extractLsb' 8 3).setWidth 8) = .ok (decodeCommand w) := by
  have h₁ : ((w.extractLsb' 8 3).setWidth 8 : Byte).extractLsb' 3 5 = 0 := by
    ext i hi
    simp only [BitVec.getElem_extractLsb', BitVec.getLsbD_setWidth, BitVec.getLsbD_extractLsb']
    simp
  have h₂ : ((w.extractLsb' 8 3).setWidth 8 : Byte).extractLsb' 0 3 ++ w.extractLsb' 0 8 = w := by
    ext i hi
    simp only [BitVec.getElem_append, BitVec.getElem_extractLsb', BitVec.getLsbD_setWidth, BitVec.getLsbD_extractLsb']
    split
    · rw [Nat.zero_add, BitVec.getLsbD_eq_getElem hi]
    · rw [← BitVec.getLsbD_eq_getElem hi]
      have : i - 8 < 3 := by omega
      have h8 : 8 + (i - 8) = i := by omega
      simp [this, h8]; omega
  rw [decodeCommandBytes, if_pos h₁, h₂]

/-- R31: two bytes recompose a 16-bit field. -/
theorem half_bytes (v : Half) :
    BitVec.ofNat 16 (256 * (BitVec.ofNat 8 (v.toNat / 256)).toNat + (BitVec.ofNat 8 v.toNat).toNat) = v := by
  apply BitVec.eq_of_toNat_eq
  have := v.isLt
  simp only [BitVec.toNat_ofNat]
  omega

/-- R31: four bytes recompose a 32-bit field. -/
theorem wide_bytes (v : Wide) :
    BitVec.ofNat 32 (256 * (256 * (256 * (BitVec.ofNat 8 (v.toNat / 256 ^ 3)).toNat +
      (BitVec.ofNat 8 (v.toNat / 256 ^ 2)).toNat) + (BitVec.ofNat 8 (v.toNat / 256 ^ 1)).toNat) +
      (BitVec.ofNat 8 (v.toNat / 256 ^ 0)).toNat) = v := by
  apply BitVec.eq_of_toNat_eq
  have := v.isLt
  simp only [BitVec.toNat_ofNat]
  omega

/-- R56: the address byte gives the address back. -/
theorem addressOf_addressByte (cfg : Config) (c : FrameCmd) (a : Byte) : addressOf cfg c (addressByte cfg c a) = a := by
  cases c <;> simp [addressOf, addressByte]

/-- R70: bytes at and beyond the offset do not enter the sum. -/
theorem checksumByte_append (b c : List Byte) (k : Nat) (h : k ≤ b.length) : checksumByte (b ++ c) k = checksumByte b k := by
  simp only [checksumByte, checksumSum, List.take_append_of_le_length h]

/-- R35: a read depends on the bytes it reads. -/
theorem memRead_congr (b b' : List Byte) (i n : Nat) (h : b.length = b'.length)
    (he : ∀ j, i ≤ j → j < i + n → b[j]? = b'[j]?) : memRead b i n = memRead b' i n := by
  simp only [memRead, h]
  split
  · congr 1
    apply List.ext_getElem?
    intro k
    simp only [List.getElem?_take, List.getElem?_drop]
    split
    · exact he _ (by omega) (by omega)
    · rfl
  · rfl

/-- R53, R54: equal frames have equal class and opcode bytes. -/
theorem encodeBytes_template (cfg : Config) (c d : FrameCmd) (a b : Byte) (h : encodeBytes cfg c a = encodeBytes cfg d b) :
    (cfg.1.template c).cls = (cfg.1.template d).cls ∧ (cfg.1.template c).opcode = (cfg.1.template d).opcode := by
  have h₁ := congrArg (fun l => l[1]?) h
  have h₂ := congrArg (fun l => l[2]?) h
  simp [encodeBytes, headBytes] at h₁ h₂
  exact ⟨h₁, h₂⟩

end Sys2Proof.Machine
end

