-- ==== Sys2Proof/Laws/State.lean ====
section
/-! SUPPORT. Reading a field after an update of the state: one lemma per field per update. -/

namespace Sys2Proof.Machine

@[simp] theorem State.setFsm_fsm (s : State) (x : FsmState) : (s.setFsm x).fsm = x := rfl
@[simp] theorem State.setFsm_session (s : State) (x : FsmState) : (s.setFsm x).session = s.session := rfl
@[simp] theorem State.setFsm_txBuf (s : State) (x : FsmState) : (s.setFsm x).txBuf = s.txBuf := rfl
@[simp] theorem State.setFsm_rx (s : State) (x : FsmState) : (s.setFsm x).rx = s.rx := rfl
@[simp] theorem State.setFsm_res (s : State) (x : FsmState) : (s.setFsm x).res = s.res := rfl
@[simp] theorem State.setFsm_cfg (s : State) (x : FsmState) : (s.setFsm x).cfg = s.cfg := rfl
@[simp] theorem State.setFsm_env (s : State) (x : FsmState) : (s.setFsm x).env = s.env := rfl
@[simp] theorem State.setFsm_free (s : State) (x : FsmState) : (s.setFsm x).free = s.free := rfl

@[simp] theorem State.setSession_fsm (s : State) (x : Session) : (s.setSession x).fsm = s.fsm := rfl
@[simp] theorem State.setSession_session (s : State) (x : Session) : (s.setSession x).session = x := rfl
@[simp] theorem State.setSession_txBuf (s : State) (x : Session) : (s.setSession x).txBuf = s.txBuf := rfl
@[simp] theorem State.setSession_rx (s : State) (x : Session) : (s.setSession x).rx = s.rx := rfl
@[simp] theorem State.setSession_res (s : State) (x : Session) : (s.setSession x).res = s.res := rfl
@[simp] theorem State.setSession_cfg (s : State) (x : Session) : (s.setSession x).cfg = s.cfg := rfl
@[simp] theorem State.setSession_env (s : State) (x : Session) : (s.setSession x).env = s.env := rfl
@[simp] theorem State.setSession_free (s : State) (x : Session) : (s.setSession x).free = s.free := rfl

@[simp] theorem State.setTxBuf_fsm (s : State) (x : Frame) : (s.setTxBuf x).fsm = s.fsm := rfl
@[simp] theorem State.setTxBuf_session (s : State) (x : Frame) : (s.setTxBuf x).session = s.session := rfl
@[simp] theorem State.setTxBuf_txBuf (s : State) (x : Frame) : (s.setTxBuf x).txBuf = x := rfl
@[simp] theorem State.setTxBuf_rx (s : State) (x : Frame) : (s.setTxBuf x).rx = s.rx := rfl
@[simp] theorem State.setTxBuf_res (s : State) (x : Frame) : (s.setTxBuf x).res = s.res := rfl
@[simp] theorem State.setTxBuf_cfg (s : State) (x : Frame) : (s.setTxBuf x).cfg = s.cfg := rfl
@[simp] theorem State.setTxBuf_env (s : State) (x : Frame) : (s.setTxBuf x).env = s.env := rfl
@[simp] theorem State.setTxBuf_free (s : State) (x : Frame) : (s.setTxBuf x).free = s.free := rfl

@[simp] theorem State.setRx_fsm (s : State) (x : RxRegs) : (s.setRx x).fsm = s.fsm := rfl
@[simp] theorem State.setRx_session (s : State) (x : RxRegs) : (s.setRx x).session = s.session := rfl
@[simp] theorem State.setRx_txBuf (s : State) (x : RxRegs) : (s.setRx x).txBuf = s.txBuf := rfl
@[simp] theorem State.setRx_rx (s : State) (x : RxRegs) : (s.setRx x).rx = x := rfl
@[simp] theorem State.setRx_res (s : State) (x : RxRegs) : (s.setRx x).res = s.res := rfl
@[simp] theorem State.setRx_cfg (s : State) (x : RxRegs) : (s.setRx x).cfg = s.cfg := rfl
@[simp] theorem State.setRx_env (s : State) (x : RxRegs) : (s.setRx x).env = s.env := rfl
@[simp] theorem State.setRx_free (s : State) (x : RxRegs) : (s.setRx x).free = s.free := rfl

@[simp] theorem State.setRes_fsm (s : State) (x : Results) : (s.setRes x).fsm = s.fsm := rfl
@[simp] theorem State.setRes_session (s : State) (x : Results) : (s.setRes x).session = s.session := rfl
@[simp] theorem State.setRes_txBuf (s : State) (x : Results) : (s.setRes x).txBuf = s.txBuf := rfl
@[simp] theorem State.setRes_rx (s : State) (x : Results) : (s.setRes x).rx = s.rx := rfl
@[simp] theorem State.setRes_res (s : State) (x : Results) : (s.setRes x).res = x := rfl
@[simp] theorem State.setRes_cfg (s : State) (x : Results) : (s.setRes x).cfg = s.cfg := rfl
@[simp] theorem State.setRes_env (s : State) (x : Results) : (s.setRes x).env = s.env := rfl
@[simp] theorem State.setRes_free (s : State) (x : Results) : (s.setRes x).free = s.free := rfl

@[simp] theorem State.setEnv_fsm (s : State) (x : Env) : (s.setEnv x).fsm = s.fsm := rfl
@[simp] theorem State.setEnv_session (s : State) (x : Env) : (s.setEnv x).session = s.session := rfl
@[simp] theorem State.setEnv_txBuf (s : State) (x : Env) : (s.setEnv x).txBuf = s.txBuf := rfl
@[simp] theorem State.setEnv_rx (s : State) (x : Env) : (s.setEnv x).rx = s.rx := rfl
@[simp] theorem State.setEnv_res (s : State) (x : Env) : (s.setEnv x).res = s.res := rfl
@[simp] theorem State.setEnv_cfg (s : State) (x : Env) : (s.setEnv x).cfg = s.cfg := rfl
@[simp] theorem State.setEnv_env (s : State) (x : Env) : (s.setEnv x).env = x := rfl
@[simp] theorem State.setEnv_free (s : State) (x : Env) : (s.setEnv x).free = s.free := rfl

@[simp] theorem State.setFree_fsm (s : State) (x : Nat) : (s.setFree x).fsm = s.fsm := rfl
@[simp] theorem State.setFree_session (s : State) (x : Nat) : (s.setFree x).session = s.session := rfl
@[simp] theorem State.setFree_txBuf (s : State) (x : Nat) : (s.setFree x).txBuf = s.txBuf := rfl
@[simp] theorem State.setFree_rx (s : State) (x : Nat) : (s.setFree x).rx = s.rx := rfl
@[simp] theorem State.setFree_res (s : State) (x : Nat) : (s.setFree x).res = s.res := rfl
@[simp] theorem State.setFree_cfg (s : State) (x : Nat) : (s.setFree x).cfg = s.cfg := rfl
@[simp] theorem State.setFree_env (s : State) (x : Nat) : (s.setFree x).env = s.env := rfl
@[simp] theorem State.setFree_free (s : State) (x : Nat) : (s.setFree x).free = x := rfl

end Sys2Proof.Machine
end

