-- ==== Sys2Proof/Laws/Ops.lean ====
section
/-! SUPPORT. What each shared operation does: reading a field after it, and the equations of the branching ones. -/

namespace Sys2Proof.Machine

@[simp] theorem State.advance_fsm (s : State) (n : Nat) : (s.advance n).fsm = s.fsm := rfl
@[simp] theorem State.advance_session (s : State) (n : Nat) : (s.advance n).session = s.session := rfl
@[simp] theorem State.advance_txBuf (s : State) (n : Nat) : (s.advance n).txBuf = s.txBuf := rfl
@[simp] theorem State.advance_rx (s : State) (n : Nat) : (s.advance n).rx = s.rx := rfl
@[simp] theorem State.advance_res (s : State) (n : Nat) : (s.advance n).res = s.res := rfl
@[simp] theorem State.advance_cfg (s : State) (n : Nat) : (s.advance n).cfg = s.cfg := rfl
@[simp] theorem State.advance_env (s : State) (n : Nat) :
    (s.advance n).env =
      { s.env with time := s.env.time + n } := rfl
@[simp] theorem State.advance_free (s : State) (n : Nat) : (s.advance n).free = s.free := rfl

@[simp] theorem State.draw_fsm (s : State) : (s.draw).fsm = s.fsm := rfl
@[simp] theorem State.draw_session (s : State) : (s.draw).session = s.session := rfl
@[simp] theorem State.draw_txBuf (s : State) : (s.draw).txBuf = s.txBuf := rfl
@[simp] theorem State.draw_rx (s : State) : (s.draw).rx = s.rx := rfl
@[simp] theorem State.draw_res (s : State) : (s.draw).res = s.res := rfl
@[simp] theorem State.draw_cfg (s : State) : (s.draw).cfg = s.cfg := rfl
@[simp] theorem State.draw_env (s : State) : (s.draw).env = s.env := rfl
@[simp] theorem State.draw_free (s : State) : (s.draw).free = s.free + 1 := rfl

@[simp] theorem State.forget_fsm (s : State) : (s.forget).fsm = s.fsm := rfl
@[simp] theorem State.forget_session (s : State) : (s.forget).session = freeSession s.cfg s.free := rfl
@[simp] theorem State.forget_txBuf (s : State) : (s.forget).txBuf = freeFrame (s.free + 1) := rfl
@[simp] theorem State.forget_rx (s : State) :
    (s.forget).rx =
      { buf := freeFrame (s.free + 2), len := freeLen (s.free + 2), hit := Config.freeBit (s.free + 2) 6 } := rfl
@[simp] theorem State.forget_res (s : State) : (s.forget).res = freeResults (s.free + 3) := rfl
@[simp] theorem State.forget_cfg (s : State) : (s.forget).cfg = s.cfg := rfl
@[simp] theorem State.forget_env (s : State) : (s.forget).env = s.env := rfl
@[simp] theorem State.forget_free (s : State) : (s.forget).free = s.free + 4 := rfl

@[simp] theorem State.txWrite_fsm (s : State) : (s.txWrite).fsm = s.fsm := rfl
@[simp] theorem State.txWrite_session (s : State) : (s.txWrite).session = s.session := rfl
@[simp] theorem State.txWrite_txBuf (s : State) : (s.txWrite).txBuf = s.txBuf := rfl
@[simp] theorem State.txWrite_rx (s : State) : (s.txWrite).rx = s.rx := rfl
@[simp] theorem State.txWrite_res (s : State) : (s.txWrite).res = s.res := rfl
@[simp] theorem State.txWrite_cfg (s : State) : (s.txWrite).cfg = s.cfg := rfl
@[simp] theorem State.txWrite_env (s : State) : (s.txWrite).env = { s.env with sent := s.env.sent ++ [s.txBuf] } := rfl
@[simp] theorem State.txWrite_free (s : State) : (s.txWrite).free = s.free := rfl

@[simp] theorem State.encodeTx_fsm (s : State) (c : FrameCmd) (a : Byte) : (s.encodeTx c a).fsm = s.fsm := rfl
@[simp] theorem State.encodeTx_session (s : State) (c : FrameCmd) (a : Byte) :
    (s.encodeTx c a).session =
      s.session := rfl
@[simp] theorem State.encodeTx_txBuf (s : State) (c : FrameCmd) (a : Byte) :
    (s.encodeTx c a).txBuf =
      encodeFrame s.cfg c a := rfl
@[simp] theorem State.encodeTx_rx (s : State) (c : FrameCmd) (a : Byte) : (s.encodeTx c a).rx = s.rx := rfl
@[simp] theorem State.encodeTx_res (s : State) (c : FrameCmd) (a : Byte) : (s.encodeTx c a).res = s.res := rfl
@[simp] theorem State.encodeTx_cfg (s : State) (c : FrameCmd) (a : Byte) : (s.encodeTx c a).cfg = s.cfg := rfl
@[simp] theorem State.encodeTx_env (s : State) (c : FrameCmd) (a : Byte) : (s.encodeTx c a).env = s.env := rfl
@[simp] theorem State.encodeTx_free (s : State) (c : FrameCmd) (a : Byte) : (s.encodeTx c a).free = s.free := rfl

@[simp] theorem State.transmit_fsm (s : State) (c : FrameCmd) (a : Byte) (f : FsmState) :
    (s.transmit c a f).fsm =
      f := rfl
@[simp] theorem State.transmit_session (s : State) (c : FrameCmd) (a : Byte) (f : FsmState) :
    (s.transmit c a f).session =
      s.session := rfl
@[simp] theorem State.transmit_txBuf (s : State) (c : FrameCmd) (a : Byte) (f : FsmState) :
    (s.transmit c a f).txBuf =
      encodeFrame s.cfg c a := rfl
@[simp] theorem State.transmit_rx (s : State) (c : FrameCmd) (a : Byte) (f : FsmState) :
    (s.transmit c a f).rx =
      s.rx := rfl
@[simp] theorem State.transmit_res (s : State) (c : FrameCmd) (a : Byte) (f : FsmState) :
    (s.transmit c a f).res =
      s.res := rfl
@[simp] theorem State.transmit_cfg (s : State) (c : FrameCmd) (a : Byte) (f : FsmState) :
    (s.transmit c a f).cfg =
      s.cfg := rfl
@[simp] theorem State.transmit_env (s : State) (c : FrameCmd) (a : Byte) (f : FsmState) :
    (s.transmit c a f).env =
      { s.env with sent := s.env.sent ++ [encodeFrame s.cfg c a] } := rfl
@[simp] theorem State.transmit_free (s : State) (c : FrameCmd) (a : Byte) (f : FsmState) :
    (s.transmit c a f).free =
      s.free := rfl

@[simp] theorem State.accept_fsm (s : State) (op : HostOp) (a : Byte) (b : Bool) :
    (s.accept op a b).fsm =
      .flushEntry := rfl
@[simp] theorem State.accept_txBuf (s : State) (op : HostOp) (a : Byte) (b : Bool) :
    (s.accept op a b).txBuf =
      s.txBuf := rfl
@[simp] theorem State.accept_rx (s : State) (op : HostOp) (a : Byte) (b : Bool) : (s.accept op a b).rx = s.rx := rfl
@[simp] theorem State.accept_res (s : State) (op : HostOp) (a : Byte) (b : Bool) : (s.accept op a b).res = s.res := rfl
@[simp] theorem State.accept_cfg (s : State) (op : HostOp) (a : Byte) (b : Bool) : (s.accept op a b).cfg = s.cfg := rfl
@[simp] theorem State.accept_env (s : State) (op : HostOp) (a : Byte) (b : Bool) : (s.accept op a b).env = s.env := rfl
@[simp] theorem State.accept_free (s : State) (op : HostOp) (a : Byte) (b : Bool) :
    (s.accept op a b).free =
      s.free := rfl

@[simp] theorem State.succeed_fsm (s : State) (r : Reply) : (s.succeed r).fsm = .succeeded := rfl
@[simp] theorem State.succeed_session (s : State) (r : Reply) : (s.succeed r).session = s.session := rfl
@[simp] theorem State.succeed_txBuf (s : State) (r : Reply) : (s.succeed r).txBuf = s.txBuf := rfl
@[simp] theorem State.succeed_rx (s : State) (r : Reply) : (s.succeed r).rx = s.rx := rfl
@[simp] theorem State.succeed_res (s : State) (r : Reply) : (s.succeed r).res = resultsOf r s.free := rfl
@[simp] theorem State.succeed_cfg (s : State) (r : Reply) : (s.succeed r).cfg = s.cfg := rfl
@[simp] theorem State.succeed_env (s : State) (r : Reply) : (s.succeed r).env = s.env := rfl
@[simp] theorem State.succeed_free (s : State) (r : Reply) : (s.succeed r).free = s.free + 1 := rfl

@[simp] theorem State.freeRes_fsm (s : State) : (s.freeRes).fsm = s.fsm := rfl
@[simp] theorem State.freeRes_session (s : State) : (s.freeRes).session = s.session := rfl
@[simp] theorem State.freeRes_txBuf (s : State) : (s.freeRes).txBuf = s.txBuf := rfl
@[simp] theorem State.freeRes_rx (s : State) : (s.freeRes).rx = s.rx := rfl
@[simp] theorem State.freeRes_res (s : State) : (s.freeRes).res = freeResults s.free := rfl
@[simp] theorem State.freeRes_cfg (s : State) : (s.freeRes).cfg = s.cfg := rfl
@[simp] theorem State.freeRes_env (s : State) : (s.freeRes).env = s.env := rfl
@[simp] theorem State.freeRes_free (s : State) : (s.freeRes).free = s.free + 1 := rfl

@[simp] theorem State.raiseTimeout_fsm (s : State) : (s.raiseTimeout).fsm = .timedOut := rfl
@[simp] theorem State.raiseTimeout_session (s : State) : (s.raiseTimeout).session = s.session := rfl
@[simp] theorem State.raiseTimeout_txBuf (s : State) : (s.raiseTimeout).txBuf = s.txBuf := rfl
@[simp] theorem State.raiseTimeout_rx (s : State) : (s.raiseTimeout).rx = s.rx := rfl
@[simp] theorem State.raiseTimeout_res (s : State) : (s.raiseTimeout).res = freeResults s.free := rfl
@[simp] theorem State.raiseTimeout_cfg (s : State) : (s.raiseTimeout).cfg = s.cfg := rfl
@[simp] theorem State.raiseTimeout_env (s : State) : (s.raiseTimeout).env = s.env := rfl
@[simp] theorem State.raiseTimeout_free (s : State) : (s.raiseTimeout).free = s.free + 1 := rfl

@[simp] theorem State.takeResponse_fsm (s : State) : (s.takeResponse).fsm = .idle := rfl
@[simp] theorem State.takeResponse_session (s : State) : (s.takeResponse).session = freeSession s.cfg s.free := rfl
@[simp] theorem State.takeResponse_res (s : State) : (s.takeResponse).res = freeResults (s.free + 3) := rfl
@[simp] theorem State.takeResponse_cfg (s : State) : (s.takeResponse).cfg = s.cfg := rfl
@[simp] theorem State.takeResponse_env (s : State) : (s.takeResponse).env = s.env := rfl
@[simp] theorem State.takeResponse_free (s : State) : (s.takeResponse).free = s.free + 4 := rfl

@[simp] theorem State.resetRegs_fsm (s : State) : (s.resetRegs).fsm = .idle := rfl
@[simp] theorem State.resetRegs_session (s : State) : (s.resetRegs).session = freeSession s.cfg s.free := rfl
@[simp] theorem State.resetRegs_res (s : State) : (s.resetRegs).res = freeResults (s.free + 3) := rfl
@[simp] theorem State.resetRegs_cfg (s : State) : (s.resetRegs).cfg = s.cfg := rfl
@[simp] theorem State.resetRegs_env (s : State) : (s.resetRegs).env = s.env := rfl
@[simp] theorem State.resetRegs_free (s : State) : (s.resetRegs).free = s.free + 4 := rfl

@[simp] theorem State.absorb_fsm (s : State) (i : Input) : (s.absorb i).fsm = s.fsm := rfl
@[simp] theorem State.absorb_session (s : State) (i : Input) : (s.absorb i).session = s.session := rfl
@[simp] theorem State.absorb_txBuf (s : State) (i : Input) : (s.absorb i).txBuf = s.txBuf := rfl
@[simp] theorem State.absorb_rx (s : State) (i : Input) : (s.absorb i).rx = s.rx := rfl
@[simp] theorem State.absorb_res (s : State) (i : Input) : (s.absorb i).res = s.res := rfl
@[simp] theorem State.absorb_cfg (s : State) (i : Input) : (s.absorb i).cfg = s.cfg := rfl
@[simp] theorem State.absorb_time (s : State) (i : Input) : (s.absorb i).env.time = s.env.time + i.delay := rfl
@[simp] theorem State.absorb_rxQueue (s : State) (i : Input) :
    (s.absorb i).env.rxQueue = (s.env.rxQueue ++ i.arrivals).drop (s.othersTake i) := rfl
@[simp] theorem State.absorb_sent (s : State) (i : Input) : (s.absorb i).env.sent = s.env.sent ++ s.othersSend i := rfl
@[simp] theorem State.absorb_commands (s : State) (i : Input) :
    (s.absorb i).env.commands = s.env.commands ++ i.command.toList := rfl
@[simp] theorem State.absorb_inputs (s : State) (i : Input) : (s.absorb i).env.inputs = s.env.inputs := rfl
@[simp] theorem State.absorb_free (s : State) (i : Input) : (s.absorb i).free = s.free := rfl

@[simp] theorem State.endResync_fsm (s : State) : (s.endResync).fsm = s.iterate := rfl
@[simp] theorem State.endResync_session (s : State) :
    (s.endResync).session =
      { s.session with lastResyncTs := s.now } := rfl
@[simp] theorem State.endResync_txBuf (s : State) : (s.endResync).txBuf = s.txBuf := rfl
@[simp] theorem State.endResync_rx (s : State) : (s.endResync).rx = s.rx := rfl
@[simp] theorem State.endResync_res (s : State) : (s.endResync).res = s.res := rfl
@[simp] theorem State.endResync_cfg (s : State) : (s.endResync).cfg = s.cfg := rfl
@[simp] theorem State.endResync_env (s : State) : (s.endResync).env = s.env := rfl
@[simp] theorem State.endResync_free (s : State) : (s.endResync).free = s.free := rfl

/-- R184: between operations another user may take and send. -/
theorem State.othersTake_idle (s : State) (i : Input) (h : s.fsm = .idle) : s.othersTake i = i.otherReads := by
  simp [State.othersTake, h]
theorem State.othersSend_idle (s : State) (i : Input) (h : s.fsm = .idle) : s.othersSend i = i.otherWrites := by
  simp [State.othersSend, h]

/-- R184: while the engine is busy nobody else does. -/
theorem State.othersTake_busy (s : State) (i : Input) (h : s.fsm ≠ .idle) : s.othersTake i = 0 := by
  simp [State.othersTake, h]
theorem State.othersSend_busy (s : State) (i : Input) (h : s.fsm ≠ .idle) : s.othersSend i = [] := by
  simp [State.othersSend, h]

/-- R121, R124: the session after acceptance. -/
@[simp] theorem State.accept_session (s : State) (op : HostOp) (a : Byte) (b : Bool) :
    (s.accept op a b).session =
      { curOp := op, targetAddr := a, activeReq := b
        startTs := if op = .readTelemetryOp then s.now else s.session.startTs
        lastResyncTs := if op = .readTelemetryOp then s.now else s.session.lastResyncTs } := rfl

/-- R121: in IDLE the command is accepted. -/
theorem State.offer_idle (s : State) (op : HostOp) (a : Byte) (b : Bool) (h : s.fsm = .idle) :
    s.offer op a b = s.accept op a b := by simp [State.offer, h]

/-- R121: elsewhere nothing happens. -/
theorem State.offer_busy (s : State) (op : HostOp) (a : Byte) (b : Bool) (h : s.fsm ≠ .idle) :
    s.offer op a b = s := by simp [State.offer, h]

/-- R37: a read that hits. -/
theorem State.rxRead_hit (s : State) (t : Nat) (f : RxFrame) (rest : List RxFrame) (h : s.env.rxQueue = f :: rest) :
    s.rxRead t = ((s.setRx (hitRegs f s.free)).draw).setEnv { s.env with rxQueue := rest } := by
  simp [State.rxRead, h]

/-- R37: a read that misses. -/
theorem State.rxRead_miss (s : State) (t : Nat) (h : s.env.rxQueue = []) :
    s.rxRead t = ((s.setRx (missRegs s.free)).draw).advance t := by
  simp [State.rxRead, h]

@[simp] theorem State.rxRead_fsm (s : State) (t : Nat) : (s.rxRead t).fsm = s.fsm := by
  unfold State.rxRead; split <;> rfl
@[simp] theorem State.rxRead_session (s : State) (t : Nat) : (s.rxRead t).session = s.session := by
  unfold State.rxRead; split <;> rfl
@[simp] theorem State.rxRead_txBuf (s : State) (t : Nat) : (s.rxRead t).txBuf = s.txBuf := by
  unfold State.rxRead; split <;> rfl
@[simp] theorem State.rxRead_res (s : State) (t : Nat) : (s.rxRead t).res = s.res := by
  unfold State.rxRead; split <;> rfl
@[simp] theorem State.rxRead_cfg (s : State) (t : Nat) : (s.rxRead t).cfg = s.cfg := by
  unfold State.rxRead; split <;> rfl
@[simp] theorem State.rxRead_free (s : State) (t : Nat) : (s.rxRead t).free = s.free + 1 := by
  unfold State.rxRead; split <;> rfl
@[simp] theorem State.rxRead_sent (s : State) (t : Nat) : (s.rxRead t).env.sent = s.env.sent := by
  unfold State.rxRead; split <;> rfl
@[simp] theorem State.rxRead_commands (s : State) (t : Nat) : (s.rxRead t).env.commands = s.env.commands := by
  unfold State.rxRead; split <;> rfl
@[simp] theorem State.rxRead_inputs (s : State) (t : Nat) : (s.rxRead t).env.inputs = s.env.inputs := by
  unfold State.rxRead; split <;> rfl

/-- R37, R41 (b): a read takes the head of the queue, where there is one. -/
@[simp] theorem State.rxRead_rxQueue (s : State) (t : Nat) : (s.rxRead t).env.rxQueue = s.env.rxQueue.tail := by
  unfold State.rxRead; split <;> simp_all

/-- R37: a read hits exactly where a frame is available. -/
@[simp] theorem State.rxRead_rx_hit (s : State) (t : Nat) : (s.rxRead t).rx.hit = !s.env.rxQueue.isEmpty := by
  unfold State.rxRead; split <;> simp_all [hitRegs, missRegs]

/-- R139 (c): only a miss takes its timeout. -/
@[simp] theorem State.rxRead_time (s : State) (t : Nat) :
    (s.rxRead t).env.time = if s.env.rxQueue = [] then s.env.time + t else s.env.time := by
  unfold State.rxRead; split <;> simp_all

/-- R15: after a hit the valid bytes are the frame. -/
theorem State.rxRead_rxBytes (s : State) (t : Nat) (f : RxFrame) (rest : List RxFrame)
    (h : s.env.rxQueue = f :: rest) : (s.rxRead t).rxBytes = f.1 := by
  have hl := f.2
  rw [s.rxRead_hit t f rest h]
  apply List.ext_getElem
  · simp [State.rxBytes, hitRegs, Frame.ofFn]; omega
  · intro i h₁ h₂
    simp [State.rxBytes, hitRegs, Frame.ofFn, List.getElem?_eq_getElem h₂]

@[simp] theorem State.now_setFsm (s : State) (f : FsmState) : (s.setFsm f).now = s.now := rfl
@[simp] theorem State.now_setSession (s : State) (x : Session) : (s.setSession x).now = s.now := rfl

/-- R19: a sample has `NOW_W` bits. -/
theorem State.now_lt (s : State) : s.now < 2 ^ s.cfg.1.nowW := Nat.mod_lt _ (Nat.two_pow_pos _)

/-- R22, R23: unspecified timestamps keep their width. -/
theorem freeSession_startTs_lt (cfg : Config) (n : Nat) : (freeSession cfg n).startTs < 2 ^ cfg.1.nowW :=
  Nat.mod_lt _ (Nat.two_pow_pos _)
theorem freeSession_lastResyncTs_lt (cfg : Config) (n : Nat) : (freeSession cfg n).lastResyncTs < 2 ^ cfg.1.nowW :=
  Nat.mod_lt _ (Nat.two_pow_pos _)

/-- R142: elapsed time is right across one wrap. -/
theorem elapsed_eq (cfg : Config) (t₀ d : Nat) (h : d < 2 ^ cfg.1.nowW) :
    elapsed cfg ((t₀ + d) % 2 ^ cfg.1.nowW) (t₀ % 2 ^ cfg.1.nowW) = d := by
  have hp : 0 < 2 ^ cfg.1.nowW := Nat.two_pow_pos _
  unfold elapsed
  generalize 2 ^ cfg.1.nowW = m at *
  have hr : t₀ % m < m := Nat.mod_lt _ hp
  have ha : (t₀ + d) % m = (t₀ % m + d) % m := by simp
  rw [ha, Nat.mod_mod]
  generalize t₀ % m = r at *
  by_cases hc : r + d < m
  · rw [Nat.mod_eq_of_lt hc, show r + d + (m - r) = d + m by omega, Nat.add_mod_right, Nat.mod_eq_of_lt h]
  · have hm : (r + d) % m = r + d - m := by
      rw [Nat.mod_eq_sub_mod (by omega), Nat.mod_eq_of_lt (by omega)]
    rw [hm, show r + d - m + (m - r) = d by omega, Nat.mod_eq_of_lt h]

@[simp] theorem State.dropInput_fsm (s : State) : s.dropInput.fsm = s.fsm := by unfold State.dropInput; split <;> rfl
@[simp] theorem State.dropInput_session (s : State) : s.dropInput.session = s.session := by
  unfold State.dropInput; split <;> rfl
@[simp] theorem State.dropInput_txBuf (s : State) : s.dropInput.txBuf = s.txBuf := by
  unfold State.dropInput; split <;> rfl
@[simp] theorem State.dropInput_rx (s : State) : s.dropInput.rx = s.rx := by unfold State.dropInput; split <;> rfl
@[simp] theorem State.dropInput_res (s : State) : s.dropInput.res = s.res := by unfold State.dropInput; split <;> rfl
@[simp] theorem State.dropInput_cfg (s : State) : s.dropInput.cfg = s.cfg := by unfold State.dropInput; split <;> rfl
@[simp] theorem State.dropInput_time (s : State) : s.dropInput.env.time = s.env.time := by
  unfold State.dropInput; split <;> rfl
@[simp] theorem State.dropInput_rxQueue (s : State) : s.dropInput.env.rxQueue = s.env.rxQueue := by
  unfold State.dropInput; split <;> rfl
@[simp] theorem State.dropInput_sent (s : State) : s.dropInput.env.sent = s.env.sent := by
  unfold State.dropInput; split <;> rfl
@[simp] theorem State.dropInput_commands (s : State) : s.dropInput.env.commands = s.env.commands := by
  unfold State.dropInput; split <;> rfl
@[simp] theorem State.dropInput_inputs (s : State) : s.dropInput.env.inputs = s.env.inputs.tail := by
  unfold State.dropInput; split <;> simp_all

/-- R181: what an outstanding access did stays outside the engine. -/
theorem State.accessTook_eq (s : State) : s.accessTook = s ∨
    (∃ c, s.txCommand = some c ∧
      s.accessTook = s.setEnv { s.env with sent := s.env.sent ++ [encodeFrame s.cfg c s.session.targetAddr] }) ∨
    (s.fsm.reads = true ∧ s.accessTook = s.setEnv { s.env with rxQueue := s.env.rxQueue.tail }) := by
  unfold State.accessTook
  split
  · exact Or.inr (Or.inl ⟨_, by assumption, rfl⟩)
  · split
    · exact Or.inr (Or.inr ⟨by assumption, rfl⟩)
    · exact Or.inl rfl

/-- R180, R181: a reset leaves IDLE and unspecified registers; configuration untouched. -/
@[simp] theorem State.resetEvent_fsm (s : State) (b : Bool) : (s.resetEvent b).fsm = .idle := by
  unfold State.resetEvent; split <;> rfl
@[simp] theorem State.accessTook_cfg (s : State) : s.accessTook.cfg = s.cfg := by
  unfold State.accessTook; repeat' split
  all_goals rfl
@[simp] theorem State.accessTook_free (s : State) : s.accessTook.free = s.free := by
  unfold State.accessTook; repeat' split
  all_goals rfl
@[simp] theorem State.resetEvent_cfg (s : State) (b : Bool) : (s.resetEvent b).cfg = s.cfg := by
  unfold State.resetEvent; split <;> simp
@[simp] theorem State.resetEvent_session (s : State) (b : Bool) :
    (s.resetEvent b).session = freeSession s.cfg s.free := by
  unfold State.resetEvent; split <;> simp

end Sys2Proof.Machine
end

