-- ==== Sys2Proof/Laws/PerInstr.lean ====
section
/-! SUPPORT. Statements for all instructions, one lemma per constructor: how many bytes an instruction has. -/

namespace Sys2Proof.Laws.EncodedLength

/-- R50, R51, R62, R85: the lengths an encoding of the instruction may have. -/
def Allowed (cfg : Config) (n : Nat) : Instr → Prop
  | .initializeOp _ _ => n = 2
  | .enableRelayOp _ _ => n = 2
  | .disableRelayOp _ _ => n = 2
  | .readTelemetryOp _ _ => n = 2
  | .initializeSensor _ => n = 32
  | .requestTelemetry _ => n = 32
  | .enableRelay _ => n = 32
  | .disableRelay _ => n = 32
  | .telemetryReply _ => cfg.1.minReplyLen ≤ n ∧ n ≤ 32

/-- A well-formed instruction is encoded in an allowed length: a command word in 2 bytes (entry 19), an outbound frame in 32
(R85), a reply in at least `MIN_REPLY_LEN` and at most 32 (R38, R62). -/
def Statement (i : Instr) : Prop := ∀ cfg : Config, i.wellFormed cfg = true → Allowed cfg (encode cfg i).length i

theorem initializeOp (a : Byte) (act : Bool) : Statement (.initializeOp a act) := fun _ _ => rfl
theorem enableRelayOp (a : Byte) (act : Bool) : Statement (.enableRelayOp a act) := fun _ _ => rfl
theorem disableRelayOp (a : Byte) (act : Bool) : Statement (.disableRelayOp a act) := fun _ _ => rfl
theorem readTelemetryOp (a : Byte) (act : Bool) : Statement (.readTelemetryOp a act) := fun _ _ => rfl
theorem initializeSensor (a : Byte) : Statement (.initializeSensor a) :=
  fun cfg _ => Machine.encodeBytes_length cfg .init a
theorem requestTelemetry (a : Byte) : Statement (.requestTelemetry a) :=
  fun cfg _ => Machine.encodeBytes_length cfg .req a
theorem enableRelay (a : Byte) : Statement (.enableRelay a) := fun cfg _ => Machine.encodeBytes_length cfg .en a
theorem disableRelay (a : Byte) : Statement (.disableRelay a) := fun cfg _ => Machine.encodeBytes_length cfg .dis a

theorem telemetryReply (r : Reply) : Statement (.telemetryReply r) := by
  intro cfg h
  simp only [Instr.wellFormed, Reply.wellFormed, Reply.fits, Bool.and_eq_true, decide_eq_true_eq] at h
  simp only [encode, Machine.replyBytes, List.length_map, List.length_range, Allowed]
  exact ⟨le_max_left _ _, h.1.1.1.2⟩

end Sys2Proof.Laws.EncodedLength
end

