-- ==== Sys2Proof/Laws/Step.lean ====
section
/-! SUPPORT. Everything one step can do, said once: the rows of R140, a reset, or an access that has not ended. -/

namespace Sys2Proof.Machine

/-- R128. -/
@[simp] theorem State.pollPaceStep_eq (s : State) : s.pollPaceStep = (s.advance s.cfg.1.tPace).setFsm .pollRead := rfl

/-- R131. -/
@[simp] theorem State.resyncSettleStep_eq (s : State) :
    s.resyncSettleStep = (s.advance s.cfg.1.tSettle).setFsm .resyncFlush := rfl

/-- The rows of R140 from the state `u` that has absorbed its input to the next state. -/
inductive Moves (u : State) (ready : Bool) : State → Prop
  | idleWait (h : u.fsm = .idle) (hc : u.env.commands = []) : Moves u ready u
  | idleAccept (h : u.fsm = .idle) (w : CommandWord) (rest : List CommandWord) (hc : u.env.commands = w :: rest) :
      Moves u ready ((u.setEnv { u.env with commands := rest }).accept (cmdOp w) (cmdAddr w) (cmdActive w))
  | flushHit (h : u.fsm = .flushEntry) (hq : u.env.rxQueue ≠ []) : Moves u ready (u.rxRead 0)
  | flushMissRead (h : u.fsm = .flushEntry) (hq : u.env.rxQueue = []) (ho : u.session.curOp = .readTelemetryOp) :
      Moves u ready ((u.rxRead 0).setFsm .pollCheck)
  | flushMissOneshot (h : u.fsm = .flushEntry) (hq : u.env.rxQueue = []) (ho : u.session.curOp ≠ .readTelemetryOp) :
      Moves u ready ((u.rxRead 0).setFsm .oneshotTx)
  | deadline (h : u.fsm = .pollCheck) (hd : elapsed u.cfg u.now u.session.startTs > u.cfg.1.tDeadline) :
      Moves u ready u.raiseTimeout
  | resync (h : u.fsm = .pollCheck) (hd : ¬ elapsed u.cfg u.now u.session.startTs > u.cfg.1.tDeadline)
      (hr : elapsed u.cfg u.now u.session.lastResyncTs > u.cfg.1.tResync) : Moves u ready (u.setFsm .resyncTx)
  | iterate (h : u.fsm = .pollCheck) (hd : ¬ elapsed u.cfg u.now u.session.startTs > u.cfg.1.tDeadline)
      (hr : ¬ elapsed u.cfg u.now u.session.lastResyncTs > u.cfg.1.tResync) : Moves u ready (u.setFsm u.iterate)
  | request (h : u.fsm = .pollTx) : Moves u ready (u.transmit .req u.session.targetAddr .pollPace)
  | pace (h : u.fsm = .pollPace) : Moves u ready ((u.advance u.cfg.1.tPace).setFsm .pollRead)
  | readMatch (h : u.fsm = .pollRead) (r : Reply) (hq : u.env.rxQueue ≠ [])
      (hr : decodeReply u.cfg (u.rxRead u.cfg.1.tRead).rxBytes = some r) (ha : r.address = u.session.targetAddr) :
      Moves u ready ((u.rxRead u.cfg.1.tRead).succeed r)
  | readDrop (h : u.fsm = .pollRead)
      (hn : u.env.rxQueue = [] ∨ ∀ r, decodeReply u.cfg (u.rxRead u.cfg.1.tRead).rxBytes = some r →
        r.address ≠ u.session.targetAddr) :
      Moves u ready ((u.rxRead u.cfg.1.tRead).setFsm .pollCheck)
  | resyncSend (h : u.fsm = .resyncTx) : Moves u ready (u.transmit .init u.session.targetAddr .resyncSettle)
  | settle (h : u.fsm = .resyncSettle) : Moves u ready ((u.advance u.cfg.1.tSettle).setFsm .resyncFlush)
  | resyncHit (h : u.fsm = .resyncFlush) (hq : u.env.rxQueue ≠ []) : Moves u ready (u.rxRead 0)
  | resyncEnd (h : u.fsm = .resyncFlush) (hq : u.env.rxQueue = []) : Moves u ready (u.rxRead 0).endResync
  | oneshot (h : u.fsm = .oneshotTx) (c : FrameCmd) (hc : cmdOf u.session.curOp = some c) :
      Moves u ready ((u.transmit c u.session.targetAddr .done).freeRes)
  | hold (h : u.rspValid = true) (hr : ready = false) : Moves u ready u
  | taken (h : u.rspValid = true) (hr : ready = true) : Moves u ready u.takeResponse

/-- R121: a command word in IDLE is accepted. -/
theorem exec_decodeCommand (w : CommandWord) (s : State) :
    exec (decodeCommand w) s = .next (s.offer (cmdOp w) (cmdAddr w) (cmdActive w)) := by
  unfold decodeCommand
  split <;> simp_all [exec, execInitializeOp, execEnableRelayOp, execDisableRelayOp, execReadTelemetryOp]

/-- The state once the input is absorbed: the engine's own registers are as they were. -/
@[simp] theorem arrived_fsm (s : State) : (Safety.arrived s).fsm = s.fsm := by simp [Safety.arrived]
@[simp] theorem arrived_session (s : State) : (Safety.arrived s).session = s.session := by simp [Safety.arrived]
@[simp] theorem arrived_txBuf (s : State) : (Safety.arrived s).txBuf = s.txBuf := by simp [Safety.arrived]
@[simp] theorem arrived_rx (s : State) : (Safety.arrived s).rx = s.rx := by simp [Safety.arrived]
@[simp] theorem arrived_res (s : State) : (Safety.arrived s).res = s.res := by simp [Safety.arrived]
@[simp] theorem arrived_cfg (s : State) : (Safety.arrived s).cfg = s.cfg := by simp [Safety.arrived]
@[simp] theorem arrived_time (s : State) :
    (Safety.arrived s).env.time = s.env.time + s.nextInput.delay := by simp [Safety.arrived]
@[simp] theorem arrived_rxQueue (s : State) :
    (Safety.arrived s).env.rxQueue = (s.env.rxQueue ++ s.nextInput.arrivals).drop (s.othersTake s.nextInput) := by
  simp [Safety.arrived, State.othersTake]
@[simp] theorem arrived_sent (s : State) :
    (Safety.arrived s).env.sent = s.env.sent ++ s.othersSend s.nextInput := by simp [Safety.arrived, State.othersSend]
@[simp] theorem arrived_commands (s : State) :
    (Safety.arrived s).env.commands = s.env.commands ++ s.nextInput.command.toList := by simp [Safety.arrived]
@[simp] theorem arrived_inputs (s : State) : (Safety.arrived s).env.inputs = s.env.inputs.tail := by
  simp [Safety.arrived]
@[simp] theorem arrived_txCommand (s : State) : (Safety.arrived s).txCommand = s.txCommand := by
  simp [State.txCommand]

/-- R184: while the engine is busy, only arrivals change the queue and nobody else transmits. -/
theorem arrived_rxQueue_busy (s : State) (h : s.fsm ≠ .idle) :
    (Safety.arrived s).env.rxQueue = s.env.rxQueue ++ s.nextInput.arrivals := by
  rw [arrived_rxQueue, State.othersTake_busy _ _ h, List.drop_zero]
theorem arrived_sent_busy (s : State) (h : s.fsm ≠ .idle) : (Safety.arrived s).env.sent = s.env.sent := by
  rw [arrived_sent, State.othersSend_busy _ _ h, List.append_nil]

/-- R140: where no reset comes and the access or wait ends, the step is the micro-state's action. -/
theorem fetch_acting (s : State) (h : s.nextInput.reset = none) (hp : (s.nextInput.pending && s.fsm.waits) = false) :
    s.fetch = (Safety.arrived s).microFetch s.nextInput.rspReady := by
  simp only [State.fetch, h, hp]; rfl

/-- R127, R130, R144: a transmit state fetches its frame command. -/
theorem microFetch_tx (u : State) (ready : Bool) (c : FrameCmd) (h : u.txCommand = some c) :
    u.microFetch ready = .instr (frameInstr c u.session.targetAddr) u := by
  have hu : u.microFetch ready = u.fetchFrame := by
    unfold State.txCommand at h
    unfold State.microFetch
    cases hf : u.fsm <;> simp_all
  rw [hu, State.fetchFrame, h]

/-- A run of `k + 1` steps begins with one step. -/
theorem runN_succ (k : Nat) (s t : State) (h : step s = .next t) : Safety.runN (k + 1) s = Safety.runN k t := by
  simp [Safety.runN, h]

/-- A run that answers a next state passes through one. -/
theorem runN_succ_next (k : Nat) (s t : State) (h : Safety.runN (k + 1) s = .next t) :
    ∃ u, step s = .next u ∧ Safety.runN k u = .next t := by
  simp only [Safety.runN] at h
  split at h
  · exact ⟨_, by assumption, h⟩
  · cases h
  · cases h

/-- The model's runs are the host's. -/
theorem runN_eq_run (k : Nat) (s : State) : Safety.runN k s = Host.Core.run Sys2Proof.core k s := by
  induction k generalizing s with
  | zero => rfl
  | succ k ih =>
    have hc : core.step s = step s := rfl
    cases hs : step s <;> (simp only [Safety.runN, Host.Core.run, hc, hs, ih]; rfl)

/-- R81 to R84: a frame command is issued. -/
theorem exec_frameInstr (c : FrameCmd) (a : Byte) (s : State) : exec (frameInstr c a) s = .next (s.issue c a) := by
  cases c <;> rfl

/-- R140: what a micro-state does, once its input is absorbed. -/
theorem microFetch_cases (u : State) (ready : Bool) (t : State)
    (h : (match u.microFetch ready with
      | .instr i v => exec i v
      | .auto v => .next v
      | .stop r => .refused r) = Host.Outcome.next t) : Moves u ready t := by
  have tx : ∀ c v, u.txCommand = some c → exec (frameInstr c u.session.targetAddr) u = .next v →
      v = u.issue c u.session.targetAddr := fun c v _ e => by
    rw [exec_frameInstr] at e; exact (Host.Outcome.next.inj e).symm
  cases hf : u.fsm <;> simp only [State.microFetch, hf] at h
  case idle =>
    unfold State.fetchCommand at h
    split at h
    · next i v hc =>
      split at hc
      · next w rest hw =>
        simp only [Fetched.instr.injEq] at hc
        obtain ⟨rfl, rfl⟩ := hc
        rw [exec_decodeCommand, State.offer_idle (h := show (u.setEnv { u.env with commands := rest }).fsm = .idle from hf)] at h
        exact (Host.Outcome.next.inj h) ▸ .idleAccept hf w rest hw
      · cases hc
    · next v hc =>
      split at hc
      · cases hc
      · next hw =>
        simp only [Fetched.auto.injEq] at hc
        exact (hc.trans (Host.Outcome.next.inj h)) ▸ .idleWait hf hw
    · cases h
  case flushEntry =>
    obtain rfl := Host.Outcome.next.inj h
    unfold State.flushEntryStep
    by_cases hq : u.env.rxQueue = []
    · by_cases ho : u.session.curOp = .readTelemetryOp
      · simpa [hq, ho] using Moves.flushMissRead (ready := ready) hf hq ho
      · simpa [hq, ho] using Moves.flushMissOneshot (ready := ready) hf hq ho
    · simpa [hq] using Moves.flushHit (ready := ready) hf hq
  case pollCheck =>
    obtain rfl := Host.Outcome.next.inj h
    unfold State.pollCheckStep
    by_cases hd : elapsed u.cfg u.now u.session.startTs > u.cfg.1.tDeadline
    · simpa only [hd, if_true] using Moves.deadline (ready := ready) hf hd
    · by_cases hr : elapsed u.cfg u.now u.session.lastResyncTs > u.cfg.1.tResync
      · simpa only [hd, hr, if_true, if_false] using Moves.resync (ready := ready) hf hd hr
      · simpa only [hd, hr, if_false] using Moves.iterate (ready := ready) hf hd hr
  case pollTx =>
    have hc : u.txCommand = some .req := by simp [State.txCommand, hf]
    simp only [State.fetchFrame, hc] at h
    obtain rfl := tx _ _ hc h
    simpa [State.issue, hc, hf] using Moves.request (ready := ready) hf
  case pollPace =>
    obtain rfl := Host.Outcome.next.inj h
    exact .pace hf
  case pollRead =>
    unfold State.fetchReply State.pollReadAccess at h
    by_cases hq : u.env.rxQueue = []
    · simp only [State.rxRead_rx_hit, hq, List.isEmpty_nil, Bool.not_true, Bool.false_eq_true, if_false] at h
      obtain rfl := Host.Outcome.next.inj h
      exact .readDrop hf (Or.inl hq)
    · have hh : (u.rxRead u.cfg.1.tRead).rx.hit = true := by simp [hq]
      simp only [hh, if_true] at h
      cases hd : decodeReply u.cfg (u.rxRead u.cfg.1.tRead).rxBytes with
      | none =>
        simp only [hd] at h
        obtain rfl := Host.Outcome.next.inj h
        exact .readDrop hf (Or.inr fun r hr => by simp [hd] at hr)
      | some r =>
        simp only [hd, exec, execTelemetryReply, State.rxRead_fsm, hf, if_true, State.rxRead_session] at h
        split at h
        · next ha =>
          obtain rfl := Host.Outcome.next.inj h
          exact .readMatch hf r hq hd ha
        · next ha =>
          obtain rfl := Host.Outcome.next.inj h
          exact .readDrop hf (Or.inr fun r' hr => by rw [hd] at hr; cases hr; exact ha)
  case resyncTx =>
    have hc : u.txCommand = some .init := by simp [State.txCommand, hf]
    simp only [State.fetchFrame, hc] at h
    obtain rfl := tx _ _ hc h
    simpa [State.issue, hc, hf] using Moves.resyncSend (ready := ready) hf
  case resyncSettle =>
    obtain rfl := Host.Outcome.next.inj h
    exact .settle hf
  case resyncFlush =>
    obtain rfl := Host.Outcome.next.inj h
    unfold State.resyncFlushStep
    by_cases hq : u.env.rxQueue = []
    · simpa [hq] using Moves.resyncEnd (ready := ready) hf hq
    · simpa [hq] using Moves.resyncHit (ready := ready) hf hq
  case oneshotTx =>
    cases hc : u.txCommand with
    | none => simp [State.fetchFrame, hc] at h
    | some c =>
      have hc' : cmdOf u.session.curOp = some c := by simpa [State.txCommand, hf] using hc
      simp only [State.fetchFrame, hc] at h
      obtain rfl := tx _ _ hc h
      simpa [State.issue, hc, hf] using Moves.oneshot (ready := ready) hf c hc'
  all_goals
    obtain rfl := Host.Outcome.next.inj h
    cases ready
    · exact .hold (by simp [State.rspValid, hf]) rfl
    · exact .taken (by simp [State.rspValid, hf]) rfl

/-- Everything a step can do. -/
theorem step_cases (s t : State) (h : step s = .next t) :
    (∃ took, s.nextInput.reset = some took ∧ t = (s.dropInput.absorb s.nextInput).resetEvent took) ∨
    (s.nextInput.reset = none ∧ s.nextInput.pending = true ∧ s.fsm.waits = true ∧
      t = s.dropInput.absorb s.nextInput) ∨
    (s.nextInput.reset = none ∧ ¬ (s.nextInput.pending = true ∧ s.fsm.waits = true) ∧
      Moves (s.dropInput.absorb s.nextInput) s.nextInput.rspReady t) := by
  unfold step State.fetch at h
  cases hr : s.nextInput.reset with
  | some took =>
    simp only [hr, Host.Outcome.next.injEq] at h
    exact Or.inl ⟨took, rfl, h.symm⟩
  | none =>
    simp only [hr] at h
    by_cases hp : s.nextInput.pending = true ∧ s.fsm.waits = true
    · simp only [hp, Bool.and_self, if_true, Host.Outcome.next.injEq] at h
      exact Or.inr (Or.inl ⟨rfl, hp.1, hp.2, h.symm⟩)
    · rw [if_neg (by simpa using hp)] at h
      exact Or.inr (Or.inr ⟨rfl, hp, microFetch_cases _ _ _ h⟩)

end Sys2Proof.Machine
end

