-- ==== Sys2Proof/Tests/Slice0.lean ====
section
/-! SUPPORT. Tests from the worked examples of 95_test_vectors.md (the vector's id in each docstring), ill-formed terms that
the checks refuse, and a witness for every obligation that has hypotheses. -/

namespace Sys2Proof.Tests

open Sys2Proof Sys2Proof.Machine Sys2Proof.Safety

/-! The illustrative configuration, the sample reply and a small state (95_test_vectors.md sections 2 and 5). -/

def exData : ConfigData where
  init := ⟨0x10, 0x20, []⟩
  en := ⟨0x12, 0x22, [0x01]⟩
  dis := ⟨0x12, 0x22, [0x00]⟩
  req := ⟨0x11, 0x21, []⟩
  reqAddrBias := 0x00
  addrIdx := 3
  vIdx := 4
  iIdx := 6
  pIdx := 8
  ahIdx := 12
  whIdx := 16
  minReplyLen := 8
  hasEnergy := true
  tickHz := 1000
  nowW := 32
  tResync := 1000
  tPace := 10
  tRead := 100
  tSettle := 100

theorem test_exData_wf : exData.Wf := by decide

def cfgEx : Config := ⟨exData, test_exData_wf⟩

theorem test_biased_wf : ({ exData with reqAddrBias := 0xAF } : ConfigData).Wf := by decide

def cfgBias : Config := ⟨{ exData with reqAddrBias := 0xAF }, test_biased_wf⟩

/-- The first twenty bytes of the sample reply `S`. -/
def s20 : List Byte :=
  [0xAA, 0x1C, 0x01, 0x07, 0x04, 0xE2, 0x01, 0x2C, 0x00, 0x00, 0x3A, 0x98, 0x00, 0x01, 0xE2, 0x40, 0x00, 0x12, 0xD6, 0x87]

/-- `S`. -/
def sample : RxFrame := ⟨s20 ++ List.replicate 12 0x00, by decide⟩

/-- `S` with byte 3 = 0x08. -/
def foreign : RxFrame := ⟨(s20.set 3 0x08) ++ List.replicate 12 0x00, by decide⟩

/-- What X1 lists. -/
def sampleReply : Reply :=
  { requestType := 0x1c, unknown1 := 0x01, address := 0x07, voltageRaw := 1250, currentRaw := 300
    power := some 15000, amphour := some 123456, watthour := some 1234567 }

/-- A state under `CFG_EX` in the given micro-state, a read of 0x07 in progress, the given frames queued, quiet inputs. -/
def at_ (f : FsmState) (queue : List RxFrame) : State :=
  { State.reset with
    fsm := f
    cfg := cfgEx
    session := { curOp := .readTelemetryOp, targetAddr := 0x07, activeReq := true, startTs := 0, lastResyncTs := 0 }
    env := { time := 0, rxQueue := queue, sent := [], commands := [], inputs := List.replicate 8 Input.quiet } }

/-- The same with a one-shot operation in progress. -/
def oneshotAt (f : FsmState) (op : HostOp) (queue : List RxFrame) : State :=
  { at_ f queue with session := { (at_ f queue).session with curOp := op } }

/-- The same at another tick. -/
def atTick (s : State) (t : Nat) : State := { s with env := { s.env with time := t } }

/-- The same with another list of inputs. -/
def withInputs (s : State) (i : List Input) : State := { s with env := { s.env with inputs := i } }

/-- The next state, the same state where there is none. -/
def nextOf (s : State) (o : Host.Outcome State Fault Refusal) : State :=
  match o with
  | .next t => t
  | .fault _ => s
  | .refused _ => s

/-- One step. -/
def after (s : State) : State := nextOf s (step s)

/-- The micro-state after `k` steps. -/
def fsmAt (k : Nat) (s : State) : Option FsmState :=
  match runN k s with
  | .next t => some t.fsm
  | .fault _ => none
  | .refused _ => none

/-- Why bytes are refused. -/
def refusal (o : Except DecodeError Instr) : Option DecodeError :=
  match o with
  | .ok _ => none
  | .error e => some e

theorem runN_of_fsmAt {k : Nat} {s : State} {f : FsmState} (h : fsmAt k s = some f) :
    ∃ u, runN k s = .next u ∧ u.fsm = f := by
  unfold fsmAt at h
  split at h
  · exact ⟨_, by assumption, Option.some.inj h⟩
  · cases h
  · cases h

theorem oneCall_of {k : Nat} {s : State} (h : ∀ j ∈ List.range (k + 1), fsmAt j s ≠ some .idle) : oneCall k s := by
  intro j hj u hu hi
  exact h j (List.mem_range.2 (Nat.lt_succ_of_le hj)) (by simp [fsmAt, hu, hi])

/-! WellFormed: an ill-formed term for each check, refused. -/

/-- R102: a reply without the guard's first byte. -/
theorem test_wf_refuses_guard : Instr.wellFormed cfgEx (.telemetryReply { sampleReply with requestType := 0x1D }) = false ∧
    Instr.wellFormed cfgEx (.telemetryReply { sampleReply with unknown1 := 0x00 }) = false := by decide

/-- R106: current frames of 8 to 11 bytes carry no `power`; one that carries `amphour` is long enough for `power`. -/
theorem test_wf_refuses_missing_power :
    Instr.wellFormed cfgEx (.telemetryReply { sampleReply with power := none, watthour := none }) = false := by decide

/-- R107: `amphour` cannot be missing where `watthour` stands. -/
theorem test_wf_refuses_missing_amphour :
    Instr.wellFormed cfgEx (.telemetryReply { sampleReply with amphour := none }) = false := by decide

theorem test_noEnergy_wf : ({ exData with hasEnergy := false } : ConfigData).Wf := by decide

def cfgNoEnergy : Config := ⟨{ exData with hasEnergy := false }, test_noEnergy_wf⟩

/-- R107, R108: a revision without energy fields carries none. -/
theorem test_wf_refuses_energy :
    Instr.wellFormed cfgNoEnergy (.telemetryReply { sampleReply with watthour := none }) = false ∧
    Reply.watthourOk cfgNoEnergy { sampleReply with amphour := none } = false ∧
    Instr.wellFormed cfgNoEnergy (.telemetryReply { sampleReply with amphour := none, watthour := none }) = true := by decide

theorem test_longMin_wf : ({ exData with minReplyLen := 33 } : ConfigData).Wf := by decide

/-- R38: under a least length of 33 no reply fits a received frame. -/
theorem test_wf_refuses_too_long :
    Reply.fits ⟨{ exData with minReplyLen := 33 }, test_longMin_wf⟩ sampleReply = false := by decide

/-- X1's reply, and every other instruction, is well-formed. -/
theorem test_wf_accepts : Instr.wellFormed cfgEx (.telemetryReply sampleReply) = true ∧
    Instr.wellFormed cfgEx (.readTelemetryOp 0xFF true) = true ∧ Instr.wellFormed cfgEx (.enableRelay 0xFF) = true := by decide

/-- R5 (a) to (c): offset, guard, equal templates. -/
theorem test_config_refuses_templates : ¬ ConfigData.OffsetsOk { exData with en := ⟨0x12, 0x22, []⟩ } ∧
    ¬ ConfigData.GuardOk { exData with req := ⟨0x1c, 0x01, []⟩ } ∧
    ¬ ConfigData.DistinctOk { exData with dis := ⟨0x12, 0x22, [0x01]⟩ } := by decide

/-- R5 (d): an address index at the least length, a field beyond the buffer, overlapping fields. -/
theorem test_config_refuses_layout : ¬ ConfigData.LayoutOk { exData with addrIdx := 20 } ∧
    ¬ ConfigData.LayoutOk { exData with whIdx := 29 } ∧ ¬ ConfigData.LayoutOk { exData with iIdx := 5 } := by decide

/-- R5 (e), (f): a resync threshold of no or of three seconds, a timebase too narrow for the deadline, another bias. -/
theorem test_config_refuses_times : ¬ ConfigData.TimesOk { exData with tResync := 0 } ∧
    ¬ ConfigData.TimesOk { exData with tResync := 3000 } ∧ ¬ ConfigData.TimesOk { exData with nowW := 13 } ∧
    ConfigData.TimesOk { exData with nowW := 14 } ∧ ¬ ConfigData.BiasOk { exData with reqAddrBias := 0x01 } := by decide

/-! Decoding: words written out bit by bit from the encodings. -/

/-- W1, W3: bits 10 / 9:8 / 7:0 of R51, low byte first. -/
theorem test_decode_initialize : decodeOption cfgEx [0b00000111, 0b00000000] = some (.initializeOp 0x07 false) := by decide
theorem test_decode_disable_relay : decodeOption cfgEx [0b00000111, 0b00000010] = some (.disableRelayOp 0x07 false) := by
  decide

/-- W2, W7. -/
theorem test_decode_enable_relay : decodeOption cfgEx [0b00000111, 0b00000001] = some (.enableRelayOp 0x07 false) ∧
    decodeOption cfgEx [0b00000111, 0b00000101] = some (.enableRelayOp 0x07 true) := by decide

/-- W5, W6. -/
theorem test_decode_read_telemetry : decodeOption cfgEx [0b00000111, 0b00000111] = some (.readTelemetryOp 0x07 true) ∧
    decodeOption cfgEx [0b11111111, 0b00000111] = some (.readTelemetryOp 0xFF true) := by decide

/-- E3. -/
theorem test_decode_InitializeSensor :
    decodeOption cfgEx ([0b10101010, 0b00010000, 0b00100000, 0b00000111, 0b11100001] ++ List.replicate 27 0) =
      some (.initializeSensor 0x07) := by decide

/-- E7, and E20 where the address byte is biased. -/
theorem test_decode_RequestTelemetry :
    decodeOption cfgEx ([0b10101010, 0b00010001, 0b00100001, 0b00000111, 0b11100011] ++ List.replicate 27 0) =
      some (.requestTelemetry 0x07) ∧
    decodeOption cfgBias ([0xAA, 0x11, 0x21, 0xAE, 0x8A] ++ List.replicate 27 0) = some (.requestTelemetry 0xFF) := by decide

/-- E11, E14. -/
theorem test_decode_EnableRelay :
    decodeOption cfgEx ([0b10101010, 0b00010010, 0b00100010, 0b00000111, 0b00000001, 0b11100110] ++ List.replicate 26 0) =
      some (.enableRelay 0x07) := by decide
theorem test_decode_DisableRelay :
    decodeOption cfgEx ([0b10101010, 0b00010010, 0b00100010, 0b00000111, 0b00000000, 0b11100101] ++ List.replicate 26 0) =
      some (.disableRelay 0x07) := by decide

/-- X1. -/
theorem test_decode_TelemetryReply : decodeOption cfgEx sample.1 = some (.telemetryReply sampleReply) := by decide

/-- R50, R61, R65: refused, by name. -/
theorem test_decode_refuses : refusal (decodeBytes cfgEx []) = some .noSuchLength ∧
    refusal (decodeBytes cfgEx [0x07]) = some .noSuchLength ∧
    refusal (decodeBytes cfgEx (List.replicate 33 0)) = some .noSuchLength ∧
    refusal (decodeBytes cfgEx [0x07, 0b00001000]) = some .commandWordTooWide ∧
    refusal (decodeBytes cfgEx (s20.take 7)) = some .notAReply ∧
    refusal (decodeBytes cfgEx (List.replicate 32 0)) = some .badPreamble ∧
    refusal (decodeBytes cfgEx ([0xAA, 0x10, 0x21] ++ List.replicate 29 0)) = some .unknownTemplate ∧
    refusal (decodeBytes cfgEx ([0xAA, 0x10, 0x20, 0x07, 0xE0] ++ List.replicate 27 0)) = some .badBody := by decide

/-- R5 (c) admits a relay command with the class and opcode of a 4-offset command, and then two calls give one frame
(entry 18): class and opcode 0x10, 0x20 and payload 0x00 for both, address 0x26, both sums are 0 modulo 256. -/
theorem test_clash_wf : ({ exData with en := ⟨0x10, 0x20, [0x00]⟩ } : ConfigData).Wf := by decide

theorem test_clash : encodeBytes ⟨_, test_clash_wf⟩ .init 0x26 = encodeBytes ⟨_, test_clash_wf⟩ .en 0x26 := by decide

/-- D12: the table's numbering of bits, bits 0 to 7 the first byte. -/
theorem test_tableBytes : tableBytes 11 0x707 = [0x07, 0x07] ∧ (tableBytes 256 0x011CAA).take 4 = [0xAA, 0x1C, 0x01, 0x00] ∧
    (tableBytes 256 0x011CAA).length = 32 := by decide

/-! Checksum, encoder, decoder. -/

/-- K1, K2, K3, K4, K5, K7, K9. -/
theorem test_checksum : computeChecksum [0x64, 0x64, 0x64] 3 = some 0x2C ∧ computeChecksum [0xFF, 0xFF, 0xFF, 0xFF] 4 = some 0xFC ∧
    computeChecksum [0xAA, 0x1C, 0x01, 0x07, 0x99] 4 = some 0xCE ∧ computeChecksum [] 0 = some 0x00 ∧
    computeChecksum (List.replicate 32 0xAA) 32 = some 0x40 ∧ computeChecksum [0xAA, 0x12, 0x22, 0x07, 0x01] 5 = some 0xE6 ∧
    computeChecksum [0x64, 0x64, 0x64] 4 = none := by decide

/-- A1, A3, A4. -/
theorem test_apply : applyChecksum [0xAA, 0x1C, 0x01, 0x07, 0x99, 0x55] 4 = some [0xAA, 0x1C, 0x01, 0x07, 0xCE, 0x55] ∧
    applyChecksum [0x12, 0x34] 0 = some [0x00, 0x34] ∧ applyChecksum [0x12, 0x34] 2 = none := by decide

/-- E4, E8, E12, E15, E17, E19, E21. -/
theorem test_encode : (encodeBytes cfgEx .init 0x51).take 6 = [0xAA, 0x10, 0x20, 0x51, 0x2B, 0x00] ∧
    (encodeBytes cfgEx .req 0x80).take 6 = [0xAA, 0x11, 0x21, 0x80, 0x5C, 0x00] ∧
    (encodeBytes cfgEx .en 0xFF).take 7 = [0xAA, 0x12, 0x22, 0xFF, 0x01, 0xDE, 0x00] ∧
    (encodeBytes cfgEx .dis 0xFF).take 7 = [0xAA, 0x12, 0x22, 0xFF, 0x00, 0xDD, 0x00] ∧
    (encodeBytes cfgBias .req 0x07).take 6 = [0xAA, 0x11, 0x21, 0xB6, 0x92, 0x00] ∧
    (encodeBytes cfgBias .req 0x51).take 6 = [0xAA, 0x11, 0x21, 0x00, 0xDC, 0x00] ∧
    (encodeBytes cfgBias .init 0x07).take 6 = [0xAA, 0x10, 0x20, 0x07, 0xE1, 0x00] := by decide

/-- X3, X5, X7, X8, X8a. -/
theorem test_reply_by_length : decodeReply cfgEx (s20.take 19) = some { sampleReply with watthour := none } ∧
    decodeReply cfgEx (s20.take 15) = some { sampleReply with amphour := none, watthour := none } ∧
    decodeReply cfgEx (s20.take 11) = some { sampleReply with power := none, amphour := none, watthour := none } ∧
    decodeReply cfgEx (s20.take 8) = some { sampleReply with power := none, amphour := none, watthour := none } ∧
    decodeReply cfgEx (s20.take 7) = none := by decide

/-- X8d, X12, X14, X18, X19, X20. -/
theorem test_reply_bytes :
    decodeReply cfgNoEnergy sample.1 = some { sampleReply with amphour := none, watthour := none } ∧
    decodeReply cfgEx ((s20.set 1 0x01).set 2 0x1C) = none ∧ decodeReply cfgEx (s20.set 0 0x00) = some sampleReply ∧
    decodeReply cfgEx ((s20.set 6 0x80).set 7 0x00) = some { sampleReply with currentRaw := 32768 } ∧
    decodeReply cfgEx (((s20.set 8 0x80).set 10 0x00).set 11 0x00) = some { sampleReply with power := some 2147483648 } ∧
    decodeReply cfgEx ((s20.set 4 0xE2).set 5 0x04) = some { sampleReply with voltageRaw := 57860 } := by decide

/-- X1, X20: 12.50 V, 15.000 W, 123.456 Ah, 1234.567 Wh. -/
theorem test_scaled : (Field.voltage.intPart 1250, Field.voltage.fracPart 1250) = (12, 50) ∧
    (Field.power.intPart 15000, Field.power.fracPart 15000) = (15, 0) ∧
    (Field.amphour.intPart 123456, Field.amphour.fracPart 123456) = (123, 456) ∧
    (Field.watthour.intPart 1234567, Field.watthour.fracPart 1234567) = (1234, 567) := by decide

/-! Single steps. -/

/-- P1 step 1, P2 tick 0: acceptance. -/
theorem test_enable_relay_accepted :
    (nextOf State.reset (exec (.enableRelayOp 0x07 false) State.reset)).session.curOp = .enableRelayOp ∧
    (nextOf State.reset (exec (.enableRelayOp 0x07 false) State.reset)).fsm = .flushEntry := by decide

/-- P4: both timestamps from one sample. -/
theorem test_read_telemetry_accepted :
    (nextOf State.reset (exec (.readTelemetryOp 0x07 false) (atTick (at_ .idle []) 77))).session.startTs = 77 ∧
    (nextOf State.reset (exec (.readTelemetryOp 0x07 false) (atTick (at_ .idle []) 77))).session.lastResyncTs = 77 := by
  decide

/-- P5: no timestamp is taken by a one-shot operation. -/
theorem test_initialize_accepted :
    (nextOf State.reset (exec (.initializeOp 0x07 false) (atTick (at_ .idle []) 77))).session.startTs = 0 := by decide

/-- F16: outside IDLE the command is not accepted. -/
theorem test_disable_relay_waits :
    (nextOf State.reset (exec (.disableRelayOp 0x09 false) (at_ .pollPace []))).session = (at_ .pollPace []).session := by
  decide

/-- P2: the request of `POLL_TX`. -/
theorem test_request_sent : (after (at_ .pollTx [])).fsm = .pollPace ∧
    ((after (at_ .pollTx [])).env.sent.map fun f => f.1.take 6) = [[0xAA, 0x11, 0x21, 0x07, 0xE3, 0x00]] := by decide

/-- P3: the `InitializeSensor` frame of a resync. -/
theorem test_resync_sent : (after (at_ .resyncTx [])).fsm = .resyncSettle ∧
    ((after (at_ .resyncTx [])).env.sent.map fun f => f.1.take 6) = [[0xAA, 0x10, 0x20, 0x07, 0xE1, 0x00]] := by decide

/-- P1 steps 5 and 9. -/
theorem test_enable_relay_sent : (after (oneshotAt .oneshotTx .enableRelayOp [])).rspStatus = .sent ∧
    ((after (oneshotAt .oneshotTx .enableRelayOp [])).env.sent.map fun f => f.1.take 7) =
      [[0xAA, 0x12, 0x22, 0x07, 0x01, 0xE6, 0x00]] := by decide
theorem test_disable_relay_sent : (after (oneshotAt .oneshotTx .disableRelayOp [])).fsm = .done ∧
    ((after (oneshotAt .oneshotTx .disableRelayOp [])).env.sent.map fun f => f.1.take 7) =
      [[0xAA, 0x12, 0x22, 0x07, 0x00, 0xE5, 0x00]] := by decide

/-- P2: the matching reply, with a later frame still queued; F10: a foreign one is dropped. -/
theorem test_reply_reported : (after (at_ .pollRead [sample, sample])).fsm = .succeeded ∧
    (after (at_ .pollRead [sample, sample])).res.watthourRaw = 1234567 ∧
    (after (at_ .pollRead [sample, sample])).env.rxQueue = [sample] := by decide
theorem test_reply_dropped : (after (at_ .pollRead [foreign])).fsm = .pollCheck := by decide

/-- P2 (iii): a short frame; P3: a miss takes the timeout. -/
theorem test_noise_dropped : (after (at_ .pollRead [⟨s20.take 7, by decide⟩])).fsm = .pollCheck ∧
    (after (at_ .pollRead [])).fsm = .pollCheck ∧ (after (at_ .pollRead [])).env.time = 100 := by decide

/-- F4, F5. -/
theorem test_deadline : (after (atTick (at_ .pollCheck []) 5000)).fsm = .resyncTx ∧
    (after (atTick (at_ .pollCheck []) 5001)).fsm = .timedOut := by decide

/-- F6, F7. -/
theorem test_resync : (after (atTick (at_ .pollCheck []) 1000)).fsm = .pollTx ∧
    (after (atTick (at_ .pollCheck []) 1001)).fsm = .resyncTx := by decide

/-- F9: the difference across the wrap of a 32-bit timebase. -/
theorem test_wrap : elapsed cfgEx 0x00001288 0xFFFFFF00 = 5000 ∧ elapsed cfgEx 0x00001289 0xFFFFFF00 = 5001 := by decide

/-- F3: three frames are read away, `S` among them, then the miss. -/
theorem test_flush : fsmAt 3 (at_ .flushEntry [sample, foreign, sample]) = some .flushEntry ∧
    fsmAt 4 (at_ .flushEntry [sample, foreign, sample]) = some .pollCheck := by decide

/-- P5: a reset in mid-read. -/
theorem test_reset_event :
    (after (withInputs (at_ .pollRead [sample]) [{ Input.quiet with reset := some true }])).fsm = .idle := by decide

/-- In IDLE another user takes the older of two frames and sends one of its own. -/
def shared : State :=
  withInputs (at_ .idle [sample, foreign]) [{ Input.quiet with otherReads := 1, otherWrites := [Frame.zero] }]

/-- R184: in IDLE another user takes the head of the queue and sends; a busy engine has the transport to itself. -/
theorem test_other_user : (after shared).env.rxQueue = [foreign] ∧ (after shared).env.sent = [Frame.zero] ∧
    (after { shared with fsm := .pollCheck }).env.rxQueue = [sample, foreign] ∧
    (after { shared with fsm := .pollCheck }).env.sent = [] := by decide

/-- Entry 20: from reset, a table word placed with `withFetchWord` is what the next step runs. -/
theorem test_withFetchWord : (after (State.reset.withFetchWord 16 0x307)).session.curOp = .readTelemetryOp ∧
    (after (State.reset.withFetchWord 16 0x307)).fsm = .flushEntry := by decide

/-! Witnesses: a concrete state and operands that meet the hypotheses of each obligation, clause by clause. -/

theorem witness_DecodeInvertsEncode : Instr.wellFormed cfgEx (.enableRelay 0x07) = true ∧ relayApart cfgEx (.enableRelay 0x07) ∧
    Instr.wellFormed cfgEx (.telemetryReply sampleReply) = true ∧ relayApart cfgEx (.telemetryReply sampleReply) := by
  refine ⟨rfl, ?_, by decide, ?_⟩
  · intro c a h hc d hd
    cases c <;> cases d <;> first | (exact absurd hc (by decide)) | (exact absurd hd (by decide)) | decide
  · intro c a h
    cases c <;> cases h

theorem witness_DecodedInstructionsAreWellFormed :
    decodeOption cfgEx sample.1 = some (.telemetryReply sampleReply) := by decide

theorem witness_DecodedCommandsHaveOneSpelling : decodeOption cfgEx [0xFF, 0x07] = some (.readTelemetryOp 0xFF true) ∧
    ∀ r, Instr.readTelemetryOp 0xFF true ≠ .telemetryReply r := ⟨by decide, fun _ h => by cases h⟩

/-- At the offset equal to the length, and one beyond it. -/
theorem witness_ChecksumIsTheSumModulo256 : 3 ≤ ([0x64, 0x64, 0x64] : List Byte).length ∧
    ([0x64, 0x64, 0x64] : List Byte).length < 4 := by decide

/-- K8. -/
theorem witness_ChecksumIgnoresOrderAndLaterBytes : 2 ≤ ([0x01, 0x02, 0x03] : List Byte).length ∧
    2 ≤ ([0x02, 0x01] : List Byte).length ∧
    (([0x01, 0x02, 0x03] : List Byte).take 2).Perm (([0x02, 0x01] : List Byte).take 2) :=
  ⟨by decide, by decide, List.Perm.swap _ _ _⟩

/-- The last byte, and the offset equal to the length. -/
theorem witness_ApplyChecksumWritesOneByte : 1 < ([0x12, 0x34] : List Byte).length ∧ ([0x12, 0x34] : List Byte).length ≤ 2 := by
  decide

/-- At the least length, and one below it (X8, X8a). -/
theorem witness_ReplyExactlyWhenLongAndGuarded : cfgEx.1.minReplyLen ≤ (s20.take 8).length ∧ (s20.take 8)[1]? = some 0x1c ∧
    (s20.take 8)[2]? = some 0x01 ∧ ¬ cfgEx.1.minReplyLen ≤ (s20.take 7).length := by decide

/-- X2 has all three wide fields, X8 has none, X8d has no energy fields. -/
theorem witness_ReplyFieldsFollowTheLayout : decodeReply cfgEx s20 = some sampleReply ∧
    decodeReply cfgEx (s20.take 8) = some { sampleReply with power := none, amphour := none, watthour := none } ∧
    decodeReply cfgNoEnergy s20 = some { sampleReply with amphour := none, watthour := none } := by decide

/-- X14, X15: another byte 0 and another padding. -/
theorem witness_DecodeSeesOnlyExaminedBytes :
    sample.1.length = ((s20.set 0 0x00) ++ List.replicate 12 0xFF).length ∧
    (∀ p ∈ examined cfgEx, ∀ i, p.1 ≤ i → i < p.1 + p.2 →
      sample.1[i]? = ((s20.set 0 0x00) ++ List.replicate 12 0xFF)[i]?) ∧
    sample.1 ≠ (s20.set 0 0x00) ++ List.replicate 12 0xFF := by
  have hr : ∀ p ∈ examined cfgEx, 1 ≤ p.1 ∧ p.1 + p.2 ≤ 20 := by decide
  have hb : ∀ i < 20, 1 ≤ i → sample.1[i]? = ((s20.set 0 0x00) ++ List.replicate 12 0xFF)[i]? := by decide
  exact ⟨by decide, fun p hp i h₁ h₂ => hb i (by have := hr p hp; omega) (by have := hr p hp; omega), by decide⟩

theorem witness_ReadTelemetryIsAccepted : (at_ .idle []).fsm = .idle := rfl
theorem witness_OneShotsAreAccepted : State.reset.fsm = .idle := rfl

theorem witness_BusyEngineAcceptsNoCommand : (at_ .pollPace []).fsm ≠ .idle ∧
    step (at_ .pollPace []) = .next (after (at_ .pollPace [])) := ⟨by decide, rfl⟩

theorem witness_RequestIsTransmittedInPollTx : (at_ .pollTx []).fsm = .pollTx := rfl
theorem witness_ResyncFrameIsTransmittedInResyncTx : (at_ .resyncTx []).fsm = .resyncTx := rfl

theorem witness_OneShotFrameIsTransmitted : (oneshotAt .oneshotTx .initializeOp []).fsm = .oneshotTx ∧
    (oneshotAt .oneshotTx .initializeOp []).session.curOp = .initializeOp ∧
    (oneshotAt .oneshotTx .enableRelayOp []).session.curOp = .enableRelayOp ∧
    (oneshotAt .oneshotTx .disableRelayOp []).session.curOp = .disableRelayOp := ⟨rfl, rfl, rfl, rfl⟩

theorem witness_FrameCommandsElsewhereDoNothing : (at_ .pollRead []).txCommand ≠ some .init ∧
    (oneshotAt .oneshotTx .enableRelayOp []).txCommand ≠ some .dis := by decide

theorem witness_TransmitStatesSendTheirCommand : (acting (at_ .pollTx []) ∧ (at_ .pollTx []).txCommand = some .req) ∧
    (acting (at_ .resyncTx []) ∧ (at_ .resyncTx []).txCommand = some .init) ∧
    acting (oneshotAt .oneshotTx .disableRelayOp []) ∧ (oneshotAt .oneshotTx .disableRelayOp []).txCommand = some .dis :=
  ⟨⟨⟨rfl, rfl⟩, rfl⟩, ⟨⟨rfl, rfl⟩, rfl⟩, ⟨rfl, rfl⟩, rfl⟩

theorem witness_MatchingReplyIsReported : (at_ .pollRead []).fsm = .pollRead ∧
    sampleReply.address = (at_ .pollRead []).session.targetAddr := ⟨rfl, rfl⟩

theorem witness_ForeignReplyIsDropped : (at_ .pollRead []).fsm = .pollRead ∧
    ({ sampleReply with address := 0x08 } : Reply).address ≠ (at_ .pollRead []).session.targetAddr := by decide

theorem witness_RepliesElsewhereAreNoEvent : (at_ .flushEntry [sample]).fsm ≠ .pollRead := by decide

/-- A waiting command in IDLE, a transmit state, a reply at the head of the queue. -/
theorem witness_StepRunsTheFetchedInstruction :
    (acting (State.reset.withFetchWord 16 0x107) ∧ (State.reset.withFetchWord 16 0x107).fsm = .idle ∧
      (arrived (State.reset.withFetchWord 16 0x107)).env.commands = [0x107]) ∧
    (acting (at_ .pollTx []) ∧ (at_ .pollTx []).txCommand = some .req) ∧
    (acting (at_ .pollRead [sample]) ∧ (at_ .pollRead [sample]).fsm = .pollRead ∧
      (arrived (at_ .pollRead [sample])).env.rxQueue = [sample] ∧
      decodeReply (at_ .pollRead [sample]).cfg sample.1 = some sampleReply) :=
  ⟨⟨⟨rfl, rfl⟩, rfl, by decide⟩, ⟨⟨rfl, rfl⟩, rfl⟩, ⟨rfl, rfl⟩, rfl, by decide, by decide⟩

theorem witness_IdleWaitsForACommand : (at_ .idle []).nextInput.reset = none ∧ (at_ .idle []).fsm = .idle ∧
    (arrived (at_ .idle [])).env.commands = [] := ⟨rfl, rfl, rfl⟩

/-- A miss, and a frame one byte too short. -/
theorem witness_NoiseAndMissesStartTheNextIteration :
    (acting (at_ .pollRead []) ∧ (at_ .pollRead []).fsm = .pollRead ∧ (arrived (at_ .pollRead [])).env.rxQueue = []) ∧
    (acting (at_ .pollRead [⟨s20.take 7, by decide⟩]) ∧
      (arrived (at_ .pollRead [⟨s20.take 7, by decide⟩])).env.rxQueue = [⟨s20.take 7, by decide⟩] ∧
      decodeReply cfgEx (s20.take 7) = none) :=
  ⟨⟨⟨rfl, rfl⟩, rfl, rfl⟩, ⟨rfl, rfl⟩, by decide, by decide⟩

/-- F4 to F7, F8: at both thresholds and one tick beyond each. -/
theorem witness_PollCheckTestsDeadlineThenResync :
    (at_ .pollCheck []).nextInput.reset = none ∧ (at_ .pollCheck []).fsm = .pollCheck ∧
    elapsed cfgEx (arrived (atTick (at_ .pollCheck []) 5001)).now 0 > cfgEx.1.tDeadline ∧
    elapsed cfgEx (arrived (atTick (at_ .pollCheck []) 5000)).now 0 ≤ cfgEx.1.tDeadline ∧
    elapsed cfgEx (arrived (atTick (at_ .pollCheck []) 1001)).now 0 > cfgEx.1.tResync ∧
    elapsed cfgEx (arrived (atTick (at_ .pollCheck []) 1001)).now 0 ≤ cfgEx.1.tDeadline ∧
    elapsed cfgEx (arrived (atTick (at_ .pollCheck []) 1000)).now 0 ≤ cfgEx.1.tResync := by decide

theorem witness_FlushEntryReadsUntilAMiss :
    acting (at_ .flushEntry [sample]) ∧ (at_ .flushEntry [sample]).fsm = .flushEntry ∧
    (arrived (at_ .flushEntry [sample])).env.rxQueue ≠ [] ∧ (arrived (at_ .flushEntry [])).env.rxQueue = [] ∧
    (at_ .flushEntry []).session.curOp = .readTelemetryOp ∧
    (oneshotAt .flushEntry .initializeOp []).session.curOp ≠ .readTelemetryOp :=
  ⟨⟨rfl, rfl⟩, rfl, by decide, rfl, rfl, by decide⟩

theorem witness_ResyncFlushEndsTheResync :
    acting (at_ .resyncFlush [sample]) ∧ (at_ .resyncFlush [sample]).fsm = .resyncFlush ∧
    (arrived (at_ .resyncFlush [sample])).env.rxQueue ≠ [] ∧ (arrived (at_ .resyncFlush [])).env.rxQueue = [] :=
  ⟨⟨rfl, rfl⟩, rfl, by decide, rfl⟩

theorem witness_PaceAndSettleWaitTheirTime : acting (at_ .pollPace []) ∧ (at_ .pollPace []).fsm = .pollPace ∧
    acting (at_ .resyncSettle []) ∧ (at_ .resyncSettle []).fsm = .resyncSettle := ⟨⟨rfl, rfl⟩, rfl, ⟨rfl, rfl⟩, rfl⟩

theorem witness_ReadTakesTheOldestFrameOrTheTimeout : (at_ .pollRead [sample, foreign]).env.rxQueue = sample :: [foreign] ∧
    (at_ .pollRead []).env.rxQueue = [] := ⟨rfl, rfl⟩

theorem quiet_silent (n : Nat) (s : State) (h : s.env.inputs = List.replicate 8 Input.quiet) (hn : n ≤ 8) :
    silentFor n s := by
  refine ⟨by simp [h, hn], fun i hi => ?_⟩
  rw [h] at hi
  obtain rfl := List.eq_of_mem_replicate (List.mem_of_mem_take hi)
  exact ⟨rfl, rfl, rfl⟩

/-- F1, F2: no frame, and one frame. -/
theorem witness_FlushIssuesOneReadMoreThanFrames :
    ((at_ .flushEntry []).fsm = .flushEntry ∧ silentFor 1 (at_ .flushEntry [])) ∧
    (at_ .flushEntry [sample]).fsm = .flushEntry ∧ silentFor 2 (at_ .flushEntry [sample]) :=
  ⟨⟨rfl, quiet_silent _ _ rfl (by decide)⟩, rfl, quiet_silent _ _ rfl (by decide)⟩

/-- P1: two stale frames, then silence. -/
def p1 : State :=
  { at_ .idle [sample, foreign] with
    env := { (at_ .idle [sample, foreign]).env with commands := [commandWord .enableRelayOp 0x07 false] } }

theorem witness_OneShotRunsToSent : p1.fsm = .idle ∧ p1.env.commands = commandWord .enableRelayOp 0x07 false :: [] ∧
    cmdOf .enableRelayOp = some .en ∧ silentFor ((arrived p1).env.rxQueue.length + 3) p1 :=
  ⟨rfl, rfl, rfl, quiet_silent _ _ rfl (by decide)⟩

theorem witness_ResponseIsHeldUntilTaken : (at_ .succeeded []).nextInput.reset = none ∧ (at_ .succeeded []).rspValid = true ∧
    (at_ .succeeded []).nextInput.rspReady = false ∧
    (withInputs (at_ .timedOut []) [{ Input.quiet with rspReady := true }]).nextInput.rspReady = true ∧
    (withInputs (at_ .timedOut []) [{ Input.quiet with rspReady := true }]).nextInput.reset = none ∧
    (withInputs (at_ .timedOut []) [{ Input.quiet with rspReady := true }]).rspValid = true := by decide

theorem witness_OnlyTheDeadlineTestTimesOut :
    step (atTick (at_ .pollCheck []) 5001) = .next (after (atTick (at_ .pollCheck []) 5001)) ∧
    (after (atTick (at_ .pollCheck []) 5001)).fsm = .timedOut ∧ (atTick (at_ .pollCheck []) 5001).fsm ≠ .timedOut :=
  ⟨rfl, by decide, by decide⟩

theorem witness_OnlyAMatchingReadSucceeds : step (at_ .pollRead [sample]) = .next (after (at_ .pollRead [sample])) ∧
    (after (at_ .pollRead [sample])).fsm = .succeeded ∧ (at_ .pollRead [sample]).fsm ≠ .succeeded :=
  ⟨rfl, by decide, by decide⟩

/-- A busy state and IDLE with another user. -/
theorem witness_OnlyTransmitStatesSend : (step (at_ .pollTx []) = .next (after (at_ .pollTx [])) ∧
      (at_ .pollTx []).nextInput.reset = none ∧ (at_ .pollTx []).fsm ≠ .idle) ∧
    step shared = .next (after shared) ∧ shared.nextInput.reset = none ∧ shared.fsm = .idle :=
  ⟨⟨rfl, rfl, by decide⟩, rfl, rfl, rfl⟩

theorem witness_OtherUsersActBetweenOperationsOnly : (at_ .pollRead [sample]).fsm ≠ .idle ∧ shared.fsm = .idle ∧
    step shared = .next (after shared) := ⟨by decide, rfl, rfl⟩

/-- A passive read in a resync. -/
def passive : State := { at_ .resyncTx [] with session := { (at_ .resyncTx []).session with activeReq := false } }

theorem witness_PassiveReadSendsOnlyInAResync : Inv passive ∧ passive.fsm ≠ .idle ∧ passive.session.curOp = .readTelemetryOp ∧
    passive.session.activeReq = false ∧ passive.nextInput.reset = none ∧ step passive = .next (after passive) ∧
    (after passive).env.sent ≠ passive.env.sent := by
  refine ⟨⟨by decide, by decide, fun _ => rfl, by decide, by decide, ?_, ?_⟩, by decide, rfl, rfl, rfl, rfl, by decide⟩ <;>
    intro h <;> cases h

/-- The hypothesis of `ConfigurationIsConstant`, `TimeNeverRunsBack`, `ReceiveQueueIsFifo`, `OnlyTableTransitions`. -/
theorem witness_ConfigurationIsConstant : step (at_ .flushEntry [sample]) = .next (after (at_ .flushEntry [sample])) := rfl
theorem witness_TimeNeverRunsBack : step (at_ .pollPace []) = .next (after (at_ .pollPace [])) := rfl
theorem witness_ReceiveQueueIsFifo : step (at_ .pollRead [sample]) = .next (after (at_ .pollRead [sample])) ∧
    (at_ .pollRead [sample]).fsm ≠ .idle ∧ step shared = .next (after shared) ∧ shared.fsm = .idle :=
  ⟨rfl, by decide, rfl, rfl⟩
theorem witness_OnlyTableTransitions : step (at_ .resyncTx []) = .next (after (at_ .resyncTx [])) := rfl

theorem witness_SessionIsFixedDuringAnOperation : step (at_ .resyncTx []) = .next (after (at_ .resyncTx [])) ∧
    (at_ .resyncTx []).nextInput.reset = none ∧ (at_ .resyncTx []).fsm ≠ .idle ∧ (after (at_ .resyncTx [])).fsm ≠ .idle ∧
    (at_ .resyncTx []).fsm ≠ .resyncFlush := ⟨rfl, rfl, by decide, by decide, by decide⟩

/-- The invariant holds in states of a read and in the state after a relay frame has been sent. -/
theorem witness_StepsKeepTheInvariant : Inv (at_ .pollTx []) ∧ step (at_ .pollTx []) = .next (after (at_ .pollTx [])) := by
  refine ⟨⟨by decide, by decide, fun _ => rfl, by decide, fun _ => rfl, ?_, ?_⟩, rfl⟩ <;> intro h <;> cases h

theorem witness_EngineNeverStops : Inv (oneshotAt .oneshotTx .enableRelayOp []) := by
  refine ⟨by decide, by decide, by decide, by decide, by decide, ?_, ?_⟩ <;> intro h <;> cases h

/-- Two idle states with different sessions; two states of a relay operation with different timestamps. -/
theorem witness_UnspecifiedRegistersAreNeverRead : sameLive (at_ .idle []) (oneshotAt .idle .enableRelayOp []) ∧
    sameLive (oneshotAt .flushEntry .enableRelayOp [])
      { oneshotAt .flushEntry .enableRelayOp [] with
        session := { curOp := .enableRelayOp, targetAddr := 0x07, activeReq := false, startTs := 9, lastResyncTs := 9 } } :=
  ⟨⟨rfl, rfl, rfl, rfl, trivial⟩, rfl, rfl, rfl, rfl, rfl, rfl, fun h => by cases h⟩

/-- The entry flush of a read, then a check 1001 ticks later, which resyncs. -/
def late : State :=
  withInputs (at_ .flushEntry []) [Input.quiet, { Input.quiet with delay := 1001 }]

theorem witness_ResyncsOfOneCallAreBounded : late.fsm = .flushEntry ∧ late.session.curOp = .readTelemetryOp ∧
    late.session.startTs = late.now ∧ late.session.lastResyncTs = late.now ∧ oneCall 2 late ∧
    runN 2 late = .next (after (after late)) ∧
    (after (after late)).env.time < late.env.time + 2 ^ late.cfg.1.nowW ∧ resyncs 2 late = 1 :=
  ⟨rfl, rfl, by decide, by decide, oneCall_of (by decide), rfl, by decide, by decide⟩

/-- A passive read: resync, settle, flush, pace, read, and 1001 ticks later the next resync. -/
def twice : State :=
  { at_ .resyncTx [] with
    session := { (at_ .resyncTx []).session with activeReq := false }
    env := { (at_ .resyncTx []).env with
      inputs := List.replicate 5 Input.quiet ++ [{ Input.quiet with delay := 1001 }] } }

theorem witness_PollingReadSeparatesResyncs : twice.fsm = .resyncTx ∧
    (∃ t, runN (5 + 1) twice = .next t ∧ t.fsm = .resyncTx) ∧ oneCall (5 + 1) twice ∧
    ∃ j, j ≤ 5 ∧ ∃ u : State, runN j twice = .next u ∧ u.fsm = .resyncSettle :=
  ⟨rfl, runN_of_fsmAt (by decide), oneCall_of (by decide), 1, by decide, runN_of_fsmAt (by decide)⟩

/-- From the entry flush with a frame queued, and from POLL_CHECK with none; a silent input with a delay and a command word. -/
theorem witness_SilentLinkTimesOut : ((at_ .flushEntry [sample]).session.curOp = .readTelemetryOp ∧
      ((at_ .flushEntry [sample]).fsm = .flushEntry ∨ (at_ .flushEntry [sample]).fsm = .pollCheck ∧ [sample] = [])) ∧
    ((at_ .pollCheck []).session.curOp = .readTelemetryOp ∧
      ((at_ .pollCheck []).fsm = .flushEntry ∨ (at_ .pollCheck []).fsm = .pollCheck ∧ (at_ .pollCheck []).env.rxQueue = [])) ∧
    0 < cfgEx.1.tPace + cfgEx.1.tRead ∧ silent { Input.quiet with delay := 123, command := some 0x307 } :=
  ⟨⟨rfl, Or.inl rfl⟩, ⟨rfl, Or.inr ⟨rfl, rfl⟩⟩, by decide, rfl, rfl, rfl⟩

/-- A reset during a transmit that took effect, during a read that did, during a wait, and one that did not. -/
theorem witness_ResetEventAbandonsTheOperation :
    (withInputs (at_ .pollTx []) [{ Input.quiet with reset := some true }]).nextInput.reset = some true ∧
    (withInputs (at_ .pollTx []) [{ Input.quiet with reset := some true }]).txCommand = some .req ∧
    (at_ .pollRead [sample]).fsm.reads = true ∧
    (at_ .pollPace []).txCommand = none ∧ (at_ .pollPace []).fsm.reads = false ∧
    (withInputs (at_ .pollRead [sample]) [{ Input.quiet with reset := some false }]).nextInput.reset = some false := by decide

theorem witness_StatusFlagsFollowTheState : (at_ .succeeded []).fsm = .succeeded ∧ (at_ .timedOut []).fsm = .timedOut ∧
    (at_ .done []).fsm = .done := ⟨rfl, rfl, rfl⟩

end Sys2Proof.Tests
end

section
/-! The scaled fields of a reply (R109): exact value, and integer part and fraction for display. -/

namespace Sys2Proof.Machine

/-- The divisor of a field is the power of ten that its displayed fraction has digits for. -/
theorem Field.divisor_eq_pow (f : Field) : f.divisor = 10 ^ f.fracDigits := by
  cases f <;> rfl

theorem Field.divisor_pos (f : Field) : 0 < f.divisor := by
  rw [f.divisor_eq_pow]
  exact Nat.pow_pos (by decide)

theorem Field.value_mul_divisor (f : Field) (raw : Nat) : f.value raw * (f.divisor : Rat) = (raw : Rat) :=
  div_mul_cancel₀ _ (Nat.cast_ne_zero.mpr f.divisor_pos.ne')

theorem Field.intPart_mul_divisor_add_fracPart (f : Field) (raw : Nat) :
    f.intPart raw * f.divisor + f.fracPart raw = raw :=
  Nat.div_add_mod' raw f.divisor

theorem Field.fracPart_lt_divisor (f : Field) (raw : Nat) : f.fracPart raw < f.divisor :=
  Nat.mod_lt raw f.divisor_pos

/-- Settles O17: the divisor is positive, so the rational division cancels and quotient and remainder recompose the raw
integer; R4's divisors and the source's example are values of the definitions. -/
theorem scaledValuesAreExact : Obligations.ScaledValuesAreExact :=
  ⟨fun f raw => ⟨f.value_mul_divisor raw, f.intPart_mul_divisor_add_fracPart raw, f.fracPart_lt_divisor raw,
      f.divisor_eq_pow⟩,
    rfl, rfl, rfl, rfl, rfl, rfl, rfl⟩

end Sys2Proof.Machine
end

section
/-! What every step keeps: the configuration, the direction of time, and the session of a running operation. -/

namespace Sys2Proof.Machine

open Sys2Proof.Safety

@[simp] theorem State.accessTook_time (s : State) : s.accessTook.env.time = s.env.time := by
  obtain h | ⟨c, -, h⟩ | ⟨-, h⟩ := s.accessTook_eq <;> rw [h] <;> rfl

@[simp] theorem State.resetEvent_time (s : State) (took : Bool) : (s.resetEvent took).env.time = s.env.time := by
  cases took <;> simp [State.resetEvent]

/-- R139 (c): a read takes no time or its timeout. -/
theorem State.le_rxRead_time (s : State) (t : Nat) : s.env.time ≤ (s.rxRead t).env.time := by
  rw [State.rxRead_time]
  split <;> omega

/-- R18: no row of R140 writes the configuration. -/
theorem Moves.cfg_eq {u t : State} {ready : Bool} (h : Moves u ready t) : t.cfg = u.cfg := by
  cases h <;> simp

/-- R139: no row of R140 sets the timebase back. -/
theorem Moves.time_le {u t : State} {ready : Bool} (h : Moves u ready t) : u.env.time ≤ t.env.time := by
  cases h
  case flushHit | flushMissRead | flushMissOneshot | readMatch | readDrop | resyncHit | resyncEnd =>
    exact u.le_rxRead_time _
  all_goals simp

/-- R12, R130: between two busy states the session stays, but for the resync time at the end of a resync. -/
theorem Moves.session_eq {u t : State} {ready : Bool} (h : Moves u ready t) (hu : u.fsm ≠ .idle)
    (ht : t.fsm ≠ .idle) :
    t.session = u.session ∨
      u.fsm = .resyncFlush ∧ t.session = { u.session with lastResyncTs := (u.rxRead 0).now } := by
  cases h
  case idleAccept hf _ _ _ => exact absurd hf hu
  case taken => exact absurd rfl ht
  case resyncEnd hf _ => exact Or.inr ⟨hf, by simp⟩
  all_goals exact Or.inl (by simp)

/-- Settles O46: a reset, a wait and every row of R140 leave the configuration alone. -/
theorem configurationIsConstant : Obligations.ConfigurationIsConstant := by
  intro s t hst
  obtain ⟨took, -, rfl⟩ | ⟨-, -, -, rfl⟩ | ⟨-, -, hm⟩ := step_cases s t hst
  · simp
  · simp
  · simpa using hm.cfg_eq

/-- Settles O47: the input's delay passes before the step's own action, which sets nothing back. -/
theorem timeNeverRunsBack : Obligations.TimeNeverRunsBack := by
  intro s t hst
  obtain ⟨took, -, rfl⟩ | ⟨-, -, -, rfl⟩ | ⟨-, -, hm⟩ := step_cases s t hst
  · simp
  · simp
  · simpa using hm.time_le

/-- Settles O50: without a reset a step waits or is a row of R140, and of those only the end of a resync writes the
session of a busy engine. -/
theorem sessionIsFixedDuringAnOperation : Obligations.SessionIsFixedDuringAnOperation := by
  intro s t hst hnoReset hs ht
  obtain ⟨took, hr, -⟩ | ⟨-, -, -, rfl⟩ | ⟨-, -, hm⟩ := step_cases s t hst
  · simp [hnoReset] at hr
  · simp
  · obtain h | ⟨hf, h⟩ := hm.session_eq (by simpa using hs) ht
    · simp [h]
    · have hf' : s.fsm = .resyncFlush := by simpa using hf
      simp [h, hf']

end Sys2Proof.Machine
end

section
/-! What single instructions and the shared read do: acceptance of the one-shot operations, their frame, a matching
reply, `RxRead`; and where an iteration goes on. -/

namespace Sys2Proof.Machine

open Sys2Proof.Safety

/-- R127, R132: an iteration goes on with a request only if one is asked for. -/
theorem State.iterate_cases (u : State) :
    u.iterate = .pollTx ∧ u.session.activeReq = true ∨ u.iterate = .pollPace := by
  cases h : u.session.activeReq <;> simp [State.iterate, h]

theorem State.iterate_ne_succeeded (u : State) : u.iterate ≠ .succeeded := by
  obtain ⟨hi, -⟩ | hi := u.iterate_cases <;> simp [hi]

/-- R127: the request is issued in POLL_TX. -/
theorem State.issue_pollTx (s : State) (c : FrameCmd) (a : Byte) (hf : s.fsm = .pollTx) (hc : s.txCommand = some c) :
    s.issue c a = s.transmit c a .pollPace := by
  simp [State.issue, hc, hf]

/-- R130: the resync's frame is issued in RESYNC_TX. -/
theorem State.issue_resyncTx (s : State) (c : FrameCmd) (a : Byte) (hf : s.fsm = .resyncTx)
    (hc : s.txCommand = some c) : s.issue c a = s.transmit c a .resyncSettle := by
  simp [State.issue, hc, hf]

/-- R144, R16: a one-shot operation's frame is issued in ONESHOT_TX, which leaves the results unspecified. -/
theorem State.issue_oneshotTx (s : State) (c : FrameCmd) (a : Byte) (hf : s.fsm = .oneshotTx)
    (hc : s.txCommand = some c) : s.issue c a = (s.transmit c a .done).freeRes := by
  simp [State.issue, hc, hf]

/-- R144: in ONESHOT_TX the command of the current operation is sent and the operation is done. -/
theorem exec_frameInstr_oneshotTx (s : State) (c : FrameCmd) (a : Byte) (hf : s.fsm = .oneshotTx)
    (hc : cmdOf s.session.curOp = some c) :
    ∃ t : State, exec (frameInstr c a) s = .next t ∧ sentAndDone s c a t := by
  have htx : s.txCommand = some c := by simpa [State.txCommand, hf] using hc
  refine ⟨(s.transmit c a .done).freeRes, ?_, ?_⟩
  · rw [exec_frameInstr, s.issue_oneshotTx c a hf htx]
  · simp [sentAndDone]

/-- R121: acceptance of a one-shot operation latches its word and keeps both timestamps. -/
theorem State.offer_oneshot (s : State) (op : HostOp) (a : Byte) (active : Bool) (hf : s.fsm = .idle)
    (hop : op ≠ .readTelemetryOp) :
    s.offer op a active = { s with
      fsm := .flushEntry
      session := { s.session with curOp := op, targetAddr := a, activeReq := active } } := by
  rw [s.offer_idle op a active hf]
  simp [State.accept, hop, State.setSession, State.setFsm]

/-- R133: in POLL_READ a reply of the target is reported. -/
theorem exec_telemetryReply_match (s : State) (r : Reply) (hf : s.fsm = .pollRead)
    (ha : r.address = s.session.targetAddr) : exec (.telemetryReply r) s = .next (s.succeed r) := by
  simp [exec, execTelemetryReply, hf, ha]

/-- Settles O19: each of the three is `offer` with an operation other than `read_telemetry`. -/
theorem oneShotsAreAccepted : Obligations.OneShotsAreAccepted := by
  intro s a active hf
  refine ⟨?_, ?_, ?_⟩ <;> exact congrArg Host.Outcome.next (s.offer_oneshot _ a active hf (by decide))

/-- Settles O24: the operation's command is the one ONESHOT_TX transmits. -/
theorem oneShotFrameIsTransmitted : Obligations.OneShotFrameIsTransmitted := by
  intro s a hf
  refine ⟨fun hop => ?_, fun hop => ?_, fun hop => ?_⟩
  · exact exec_frameInstr_oneshotTx s .init a hf (by rw [hop]; rfl)
  · exact exec_frameInstr_oneshotTx s .en a hf (by rw [hop]; rfl)
  · exact exec_frameInstr_oneshotTx s .dis a hf (by rw [hop]; rfl)

/-- Settles O27: the step is `succeed`, whose results are those of the reply. -/
theorem matchingReplyIsReported : Obligations.MatchingReplyIsReported := by
  intro s r hf ha
  refine ⟨s.succeed r, exec_telemetryReply_match s r hf ha, rfl, ?_⟩
  simp +contextual [resultsOf]

/-- Settles O37, by the two cases of the queue. -/
theorem readTakesTheOldestFrameOrTheTimeout : Obligations.ReadTakesTheOldestFrameOrTheTimeout := by
  intro s t
  refine ⟨fun f q hq => ⟨?_, ?_, s.rxRead_rxBytes t f q hq, ?_⟩, fun hq => ⟨?_, ?_⟩, by simp⟩
  · simp [hq]
  · rw [s.rxRead_hit t f q hq]; rfl
  · rw [s.rxRead_hit t f q hq]; rfl
  · simp [hq]
  · rw [s.rxRead_miss t hq]; rfl

end Sys2Proof.Machine
end

section
/-! The status flags follow `fsm_state` (R17, R121). -/

namespace Sys2Proof.Machine

/-- Settles O58: every flag is a test of `fsm_state`, which is IDLE after reset. -/
theorem resetLeavesTheEngineReady : Obligations.ResetLeavesTheEngineReady := ⟨rfl, rfl, rfl, rfl⟩

/-- R17: no status has code 3. -/
theorem Status.code_ne_three (x : Status) : x.code ≠ 3 := by
  cases x <;> decide

/-- Settles O60: each flag is a test of `fsm_state`, and no status has code 3. -/
theorem statusFlagsFollowTheState : Obligations.StatusFlagsFollowTheState := by
  intro s
  refine ⟨by simp [State.busy], by simp [State.cmdReady], by simp [State.rspValid, or_assoc], ?_, ?_, ?_,
    s.rspStatus.code_ne_three⟩
  all_goals
    intro hf
    simp [State.rspStatus, hf, Status.code]

end Sys2Proof.Machine
end

section
/-! The invariant of the engine: reset meets it, and every step keeps it (R12, R13, R127, R133, R143, R144). -/

namespace Sys2Proof.Safety

open Sys2Proof.Machine

/-- In a state that is neither SUCCEEDED nor DONE the invariant speaks of session and micro-state alone. -/
theorem Inv.of_running {t : State} (hstart : t.session.startTs < 2 ^ t.cfg.1.nowW)
    (hlast : t.session.lastResyncTs < 2 ^ t.cfg.1.nowW)
    (hread : inRead t.fsm = true → t.session.curOp = .readTelemetryOp)
    (hone : t.fsm = .oneshotTx → t.session.curOp ≠ .readTelemetryOp)
    (hreq : t.fsm = .pollTx → t.session.activeReq = true)
    (hsucc : t.fsm ≠ .succeeded) (hdone : t.fsm ≠ .done) : Inv t where
  startTs_lt := hstart
  lastResyncTs_lt := hlast
  reading := hread
  oneshot h := h.elim hone fun hd => absurd hd hdone
  requesting := hreq
  reported h := absurd h hsucc
  sentLast h := absurd h hdone

/-- R22, R23: IDLE with an unspecified session meets the invariant. -/
theorem Inv.of_forgotten {t : State} (n : Nat) (hf : t.fsm = .idle) (hs : t.session = freeSession t.cfg n) :
    Inv t := by
  apply Inv.of_running <;> simp [hf, hs, inRead, freeSession_startTs_lt, freeSession_lastResyncTs_lt]

/-- A move to another state of the read that keeps the session keeps the invariant, if a request is asked for. -/
theorem Inv.of_reading {u t : State} (hu : Inv u) (hop : u.session.curOp = .readTelemetryOp) (hc : t.cfg = u.cfg)
    (hs : t.session = u.session) (hread : inRead t.fsm = true) (hreq : t.fsm = .pollTx → u.session.activeReq = true)
    (hsucc : t.fsm ≠ .succeeded) : Inv t :=
  .of_running (by simpa [hs, hc] using hu.startTs_lt) (by simpa [hs, hc] using hu.lastResyncTs_lt)
    (fun _ => by rw [hs, hop]) (fun h => by simp [h, inRead] at hread) (by simpa [hs] using hreq) hsucc
    (fun h => by simp [h, inRead] at hread)

/-- What the world does before the engine acts keeps the invariant; in DONE nobody else transmits (R184). -/
theorem Inv.arrived {s : State} (h : Inv s) : Inv (arrived s) where
  startTs_lt := by simpa using h.startTs_lt
  lastResyncTs_lt := by simpa using h.lastResyncTs_lt
  reading := by simpa using h.reading
  oneshot := by simpa using h.oneshot
  requesting := by simpa using h.requesting
  reported := by simpa [State.rxBytes] using h.reported
  sentLast hd := by
    have hd' : s.fsm = .done := by simpa using hd
    rw [arrived_sent_busy s (by simp [hd'])]
    simpa using h.sentLast hd'

/-- R121, R124: acceptance leads to the invariant; a sample of the timebase has its width. -/
theorem Inv.of_accept {u : State} (op : HostOp) (a : Byte) (active : Bool)
    (hstart : u.session.startTs < 2 ^ u.cfg.1.nowW) (hlast : u.session.lastResyncTs < 2 ^ u.cfg.1.nowW) :
    Inv (u.accept op a active) := by
  refine .of_running ?_ ?_ (by simp [inRead]) (by simp) (by simp) (by simp) (by simp) <;>
    simp only [State.accept_session, State.accept_cfg] <;> split
  · exact u.now_lt
  · exact hstart
  · exact u.now_lt
  · exact hlast

/-- R133, R141 (c): a reply that matches is reported with its frame in the receive buffer. -/
theorem Inv.succeed {u : State} (h : Inv u) (hop : u.session.curOp = .readTelemetryOp) (hhit : u.rx.hit = true)
    (r : Reply) (hr : decodeReply u.cfg u.rxBytes = some r) (ha : r.address = u.session.targetAddr) :
    Inv (u.succeed r) where
  startTs_lt := h.startTs_lt
  lastResyncTs_lt := h.lastResyncTs_lt
  reading _ := hop
  oneshot := by simp
  requesting := by simp
  reported _ := ⟨hhit, r, u.free, hr, ha, rfl⟩
  sentLast := by simp

/-- R144: a one-shot operation is done with its frame sent. -/
theorem Inv.oneshotDone {u : State} (h : Inv u) (hop : u.session.curOp ≠ .readTelemetryOp) (c : FrameCmd)
    (hc : cmdOf u.session.curOp = some c) : Inv ((u.transmit c u.session.targetAddr .done).freeRes) where
  startTs_lt := h.startTs_lt
  lastResyncTs_lt := h.lastResyncTs_lt
  reading := by simp [inRead]
  oneshot _ := hop
  requesting := by simp
  reported := by simp
  sentLast _ := ⟨c, hc, rfl, by simp⟩

/-- R37: a read keeps the invariant, in a micro-state that still has one to do. -/
theorem Inv.rxRead {u : State} (h : Inv u) (ticks : Nat) (hsucc : u.fsm ≠ .succeeded) (hdone : u.fsm ≠ .done) :
    Inv (u.rxRead ticks) :=
  .of_running (by simpa using h.startTs_lt) (by simpa using h.lastResyncTs_lt) (by simpa using h.reading)
    (by simpa using fun hf => h.oneshot (Or.inl hf)) (by simpa using h.requesting) (by simpa using hsucc)
    (by simpa using hdone)

/-- R132: the end of a resync keeps the invariant. -/
theorem Inv.endResync {u : State} (h : Inv u) (hop : u.session.curOp = .readTelemetryOp) : Inv u.endResync := by
  refine .of_running h.startTs_lt u.now_lt (fun _ => hop) ?_ ?_ ?_ ?_ <;> simp only [State.endResync_fsm] <;>
    obtain ⟨hi, ha⟩ | hi := u.iterate_cases <;> simp [*]

/-- R140: every row of the table keeps the invariant. -/
theorem Inv.moves {u t : State} {ready : Bool} (hu : Inv u) (h : Moves u ready t) : Inv t := by
  have reading : ∀ {f}, u.fsm = f → inRead f = true → u.session.curOp = .readTelemetryOp :=
    fun hf hr => hu.reading (hf ▸ hr)
  cases h
  case idleWait | hold => exact hu
  case idleAccept => exact .of_accept _ _ _ hu.startTs_lt hu.lastResyncTs_lt
  case flushHit hf _ | resyncHit hf _ => exact hu.rxRead 0 (by simp [hf]) (by simp [hf])
  case flushMissRead _ _ hop => exact hu.of_reading hop (by simp) (by simp) rfl (by simp) (by simp)
  case flushMissOneshot _ _ hop =>
    exact .of_running (by simpa using hu.startTs_lt) (by simpa using hu.lastResyncTs_lt) (by simp [inRead])
      (fun _ => by simpa using hop) (by simp) (by simp) (by simp)
  case iterate hf _ _ =>
    obtain ⟨hi, ha⟩ | hi := u.iterate_cases <;> rw [hi]
    · exact hu.of_reading (reading hf rfl) rfl rfl rfl (fun _ => ha) (by simp)
    · exact hu.of_reading (reading hf rfl) rfl rfl rfl (by simp) (by simp)
  case deadline hf _ | resync hf _ _ | request hf | pace hf | readDrop hf _ | resyncSend hf | settle hf =>
    exact hu.of_reading (reading hf rfl) (by simp) (by simp) rfl (by simp) (by simp)
  case readMatch hf r hq hr ha =>
    exact (hu.rxRead _ (by simp [hf]) (by simp [hf])).succeed (by simpa using reading hf rfl) (by simpa using hq) r
      (by simpa using hr) (by simpa using ha)
  case resyncEnd hf _ =>
    exact (hu.rxRead 0 (by simp [hf]) (by simp [hf])).endResync (by simpa using reading hf rfl)
  case oneshot hf c hc => exact hu.oneshotDone (hu.oneshot (Or.inl hf)) c hc
  case taken => exact .of_forgotten u.free rfl rfl

/-- Settles O51: IDLE demands the width of the timestamps alone, and zero has it. -/
theorem invariantHoldsAtReset : Obligations.InvariantHoldsAtReset :=
  .of_running (Nat.two_pow_pos _) (Nat.two_pow_pos _) (by decide) (by decide) (by decide) (by decide) (by decide)

/-- Settles O52: a reset leaves IDLE with an unspecified session; a wait is the arrival of the input, and every row of
R140 keeps the invariant after that arrival. -/
theorem stepsKeepTheInvariant : Obligations.StepsKeepTheInvariant := by
  intro s t hs hst
  obtain ⟨took, -, rfl⟩ | ⟨-, -, -, rfl⟩ | ⟨-, -, hm⟩ := step_cases s t hst
  · exact .of_forgotten (Safety.arrived s).free (by simp) (by simp [Safety.arrived])
  · exact hs.arrived
  · exact hs.arrived.moves hm

end Sys2Proof.Safety
end

section
/-! Noninterference: states alike on the live registers take alike steps (R22, R23, U5 to U7). Everything outside the
engine's registers is the same in both; each shared operation keeps that, and each micro-state's action leads to states
that agree on what is live next. -/

namespace Sys2Proof.Safety

open Sys2Proof.Machine

/-- Two states agree on micro-state, configuration, environment and the free-value counter. -/
structure SameWorld (s t : State) : Prop where
  fsm : s.fsm = t.fsm
  cfg : s.cfg = t.cfg
  env : s.env = t.env
  free : s.free = t.free

theorem sameLive.world {s t : State} (h : sameLive s t) : SameWorld s t := by
  obtain ⟨hf, hc, he, hn, -⟩ := h
  exact ⟨hf, hc, he, hn⟩

/-! What `sameLive` says of the registers in a micro-state. -/

/-- Within a read, before its response, the whole session is live. -/
theorem sameLive.session {s t : State} {f : FsmState} (h : sameLive s t) (hf : s.fsm = f)
    (hread : inRead f = true ∧ f ≠ .succeeded ∧ f ≠ .timedOut) : s.session = t.session := by
  obtain ⟨-, -, -, -, hl⟩ := h
  subst hf
  cases hf : s.fsm <;> simp_all [inRead]

/-- Wherever a frame is transmitted, operation and address are live. -/
theorem sameLive.txCommand {s t : State} (h : sameLive s t) : s.txCommand = t.txCommand := by
  obtain ⟨hw, -, -, -, hl⟩ := h
  unfold State.txCommand
  rw [← hw]
  cases hf : s.fsm
  case oneshotTx =>
    simp only [hf] at hl
    obtain ⟨hop, -⟩ := hl
    exact congrArg cmdOf hop
  all_goals rfl

theorem sameLive.targetAddr {s t : State} (h : sameLive s t) (c : FrameCmd) (hc : s.txCommand = some c) :
    s.session.targetAddr = t.session.targetAddr := by
  obtain ⟨-, -, -, -, hl⟩ := h
  cases hf : s.fsm <;> simp_all [State.txCommand]

/-- States that agree on session and results agree on whatever is live. -/
theorem SameWorld.sameLive_of_regs {s t : State} (h : SameWorld s t) (hs : s.session = t.session)
    (hr : s.fsm = .succeeded → s.res = t.res) : sameLive s t := by
  refine ⟨h.fsm, h.cfg, h.env, h.free, ?_⟩
  cases hf : s.fsm <;> simp_all

/-- Before SUCCEEDED the session is enough. -/
theorem SameWorld.sameLive_of_session {s t : State} (h : SameWorld s t) (hs : s.session = t.session)
    (hf : s.fsm ≠ .succeeded) : sameLive s t :=
  h.sameLive_of_regs hs fun hc => absurd hc hf

/-- In IDLE, TIMEDOUT and DONE nothing is live. -/
theorem SameWorld.sameLive_of_ended {s t : State} (h : SameWorld s t)
    (hf : s.fsm = .idle ∨ s.fsm = .timedOut ∨ s.fsm = .done) : sameLive s t := by
  refine ⟨h.fsm, h.cfg, h.env, h.free, ?_⟩
  obtain hf | hf | hf := hf <;> simp [hf]

/-! The shared operations keep the world alike. -/

section
variable {s t : State} (h : SameWorld s t)
include h

theorem SameWorld.setFsm (f : FsmState) : SameWorld (s.setFsm f) (t.setFsm f) := ⟨rfl, h.cfg, h.env, h.free⟩

theorem SameWorld.now : s.now = t.now := by rw [State.now, State.now, h.env, h.cfg]

theorem SameWorld.freeRes : SameWorld s.freeRes t.freeRes := ⟨h.fsm, h.cfg, h.env, by simp [h.free]⟩

theorem SameWorld.forget : SameWorld s.forget t.forget := ⟨h.fsm, h.cfg, h.env, by simp [h.free]⟩

theorem SameWorld.advance (n : Nat) : SameWorld (s.advance n) (t.advance n) :=
  ⟨h.fsm, h.cfg, by simp [h.env], h.free⟩

theorem SameWorld.transmit (c : FrameCmd) (a : Byte) (f : FsmState) :
    SameWorld (s.transmit c a f) (t.transmit c a f) :=
  ⟨rfl, h.cfg, by simp [h.env, h.cfg], h.free⟩

theorem SameWorld.rxRead (n : Nat) : SameWorld (s.rxRead n) (t.rxRead n) := by
  refine ⟨by simpa using h.fsm, by simpa using h.cfg, ?_, by simpa using h.free⟩
  unfold State.rxRead
  rw [h.env]
  split <;> simp [h.env]

/-- R15: a read overwrites the receive registers. -/
theorem SameWorld.rxRead_rx (n : Nat) : (s.rxRead n).rx = (t.rxRead n).rx := by
  unfold State.rxRead
  rw [h.env, h.free]
  split <;> simp

theorem SameWorld.nextInput : s.nextInput = t.nextInput := by
  rw [State.nextInput, State.nextInput, h.env, h.free]

theorem SameWorld.dropInput : SameWorld s.dropInput t.dropInput := by
  unfold State.dropInput
  rw [h.env]
  split
  · exact ⟨h.fsm, h.cfg, rfl, h.free⟩
  · exact ⟨h.fsm, h.cfg, h.env, by simp [h.free]⟩

theorem SameWorld.absorb (i : Input) : SameWorld (s.absorb i) (t.absorb i) := by
  refine ⟨h.fsm, h.cfg, ?_, h.free⟩
  simp only [State.absorb, State.othersTake, State.othersSend, h.env, h.fsm, State.setEnv_env]

theorem SameWorld.arrived : SameWorld (arrived s) (arrived t) := by
  unfold Safety.arrived
  rw [h.nextInput]
  exact h.dropInput.absorb _

end

/-- What the world does leaves every register, and so what is live. -/
theorem sameLive.arrived {s t : State} (h : sameLive s t) : sameLive (arrived s) (arrived t) := by
  have hw := h.world.arrived
  obtain ⟨-, -, -, -, hl⟩ := h
  exact ⟨hw.fsm, hw.cfg, hw.env, hw.free, by simpa using hl⟩

/-- A read leaves session and results, and so what is live. -/
theorem sameLive.rxRead {s t : State} (h : sameLive s t) (n : Nat) : sameLive (s.rxRead n) (t.rxRead n) := by
  have hw := h.world.rxRead n
  obtain ⟨-, -, -, -, hl⟩ := h
  exact ⟨hw.fsm, hw.cfg, hw.env, hw.free, by simpa using hl⟩

/-! The micro-states' actions, from states alike to states alike. -/

/-- R121, R124: the word is latched; a one-shot operation latches no timestamp, and none is live in it. -/
theorem SameWorld.accept {u v : State} (h : SameWorld u v) (op : HostOp) (a : Byte) (active : Bool) :
    sameLive (u.accept op a active) (v.accept op a active) := by
  refine ⟨rfl, h.cfg, h.env, h.free, rfl, rfl, fun hop => ?_⟩
  obtain rfl : op = .readTelemetryOp := hop
  simp [h.now]

/-- R121: in IDLE nothing but the word and the timebase enters the new session. -/
theorem SameWorld.offer {u v : State} (h : SameWorld u v) (op : HostOp) (a : Byte) (active : Bool)
    (hf : u.fsm = .idle) : sameLive (u.offer op a active) (v.offer op a active) := by
  rw [u.offer_idle _ _ _ hf, v.offer_idle _ _ _ (h.fsm ▸ hf)]
  exact h.accept op a active

section
variable {u v : State} (h : sameLive u v)
include h

/-- R180, R181: an outstanding access took effect in both or in neither. -/
theorem sameLive.accessTook : SameWorld u.accessTook v.accessTook := by
  obtain ⟨hf, hc, he, hn⟩ := h.world
  unfold State.accessTook
  rw [← h.txCommand, ← hf]
  split
  · next c htx => exact ⟨hf, hc, by simp [he, hc, h.targetAddr c htx], hn⟩
  · split
    · exact ⟨hf, hc, by simp [he], hn⟩
    · exact h.world

/-- R180: nothing is live after a reset. -/
theorem sameLive.resetEvent (took : Bool) : sameLive (u.resetEvent took) (v.resetEvent took) := by
  refine SameWorld.sameLive_of_ended ?_ (Or.inl (by simp))
  cases took
  · exact h.world.forget.setFsm .idle
  · exact h.accessTook.forget.setFsm .idle

/-- R143: at the final miss of a read's flush its whole session is live, as POLL_CHECK wants it. -/
theorem sameLive.flushEntryStep (hf : u.fsm = .flushEntry) : sameLive u.flushEntryStep v.flushEntryStep := by
  have hread := h.rxRead 0
  have hrx := h.world.rxRead_rx 0
  obtain ⟨-, -, -, -, hl⟩ := h
  simp only [hf] at hl
  obtain ⟨hop, haddr, hsession⟩ := hl
  unfold State.flushEntryStep
  rw [← hrx, ← hop]
  split
  · exact hread
  · split
    · next ho => exact (hread.world.setFsm _).sameLive_of_session (by simpa using hsession ho) (by simp)
    · obtain ⟨-, hc, he, hn⟩ := hread.world
      exact ⟨rfl, hc, he, hn, by simpa using ⟨hop, haddr⟩⟩

/-- R125, R126, R127: both tests read the session and the timebase alone. -/
theorem sameLive.pollCheckStep (hs : u.session = v.session) : sameLive u.pollCheckStep v.pollCheckStep := by
  have hw := h.world
  have hi : u.iterate = v.iterate := by simp [State.iterate, hs]
  unfold State.pollCheckStep
  rw [← hs, ← hw.cfg, ← hw.now, ← hi]
  split
  · exact (hw.freeRes.setFsm .timedOut).sameLive_of_ended (by simp)
  · split
    · exact (hw.setFsm _).sameLive_of_session hs (by simp)
    · exact (hw.setFsm _).sameLive_of_session hs u.iterate_ne_succeeded

/-- R128: the pace is the configuration's. -/
theorem sameLive.pollPaceStep (hs : u.session = v.session) : sameLive u.pollPaceStep v.pollPaceStep := by
  unfold State.pollPaceStep
  rw [← h.world.cfg]
  exact ((h.world.advance _).setFsm _).sameLive_of_session hs (by simp)

/-- R131: the settle time is the configuration's. -/
theorem sameLive.resyncSettleStep (hs : u.session = v.session) : sameLive u.resyncSettleStep v.resyncSettleStep := by
  unfold State.resyncSettleStep
  rw [← h.world.cfg]
  exact ((h.world.advance _).setFsm _).sameLive_of_session hs (by simp)

/-- R132: the flush reads the queue, and the new resync time is the timebase's. -/
theorem sameLive.resyncFlushStep (hs : u.session = v.session) : sameLive u.resyncFlushStep v.resyncFlushStep := by
  have hread := h.rxRead 0
  unfold State.resyncFlushStep
  rw [← h.world.rxRead_rx 0]
  split
  · exact hread
  · obtain ⟨-, hc, he, hn⟩ := hread.world
    refine SameWorld.sameLive_of_session ⟨?_, hc, he, hn⟩ ?_ ?_
    · simp [State.iterate, hs]
    · simp [hs, hread.world.now]
    · exact (u.rxRead 0).iterate_ne_succeeded

/-- R127, R130, R144: the frame sent depends on operation and address alone. -/
theorem sameLive.issue (c : FrameCmd) (a : Byte) (hc : u.txCommand = some c) :
    sameLive (u.issue c a) (v.issue c a) := by
  have hcv : v.txCommand = some c := by rw [← h.txCommand, hc]
  have hw := h.world
  cases hf : u.fsm
  case pollTx =>
    have hs := h.session hf (by decide)
    rw [u.issue_pollTx c a hf hc, v.issue_pollTx c a (hw.fsm ▸ hf) hcv]
    exact (hw.transmit c a _).sameLive_of_session hs (by simp)
  case resyncTx =>
    have hs := h.session hf (by decide)
    rw [u.issue_resyncTx c a hf hc, v.issue_resyncTx c a (hw.fsm ▸ hf) hcv]
    exact (hw.transmit c a _).sameLive_of_session hs (by simp)
  case oneshotTx =>
    rw [u.issue_oneshotTx c a hf hc, v.issue_oneshotTx c a (hw.fsm ▸ hf) hcv]
    exact (hw.transmit c a _).freeRes.sameLive_of_ended (by simp)
  all_goals simp [State.txCommand, hf] at hc

/-- R138: a held response is live in SUCCEEDED; a taken one leaves nothing live. -/
theorem sameLive.terminalStep (ready : Bool) : sameLive (u.terminalStep ready) (v.terminalStep ready) := by
  cases ready
  · exact h
  · exact (h.world.forget.setFsm .idle).sameLive_of_ended (Or.inl rfl)

/-- R129, R133: the reply is decoded from the frame just read, and its results are the reply's. -/
theorem sameLive.execTelemetryReply (r : Reply) (hf : u.fsm = .pollRead) (hs : u.session = v.session) :
    sameOutcome (execTelemetryReply r u) (execTelemetryReply r v) := by
  have hw := h.world
  simp only [Machine.execTelemetryReply, ← hw.fsm, hf, if_true, ← hs]
  split
  · refine SameWorld.sameLive_of_regs ⟨rfl, hw.cfg, hw.env, ?_⟩ hs fun _ => ?_
    · simp [hw.free]
    · simp [hw.free]
  · exact (hw.setFsm _).sameLive_of_session hs (by simp)

end

end Sys2Proof.Safety

namespace Sys2Proof.Machine

open Sys2Proof.Safety

/-- What becomes of what a step fetches. -/
def Fetched.outcome : Fetched → Host.Outcome State Fault Refusal
  | .instr i s => exec i s
  | .auto s => .next s
  | .stop r => .refused r

theorem step_eq_outcome (s : State) : step s = s.fetch.outcome := by
  unfold step Fetched.outcome
  cases s.fetch <;> rfl

section
variable {u v : State} (h : sameLive u v)
include h

/-- R121: the waiting command words are the environment's. -/
theorem fetchCommand_sameOutcome (hf : u.fsm = .idle) :
    sameOutcome u.fetchCommand.outcome v.fetchCommand.outcome := by
  have hw := h.world
  unfold State.fetchCommand
  rw [← hw.env]
  split
  · next w rest _ =>
    have hpop : SameWorld (u.setEnv { u.env with commands := rest }) (v.setEnv { u.env with commands := rest }) :=
      ⟨hw.fsm, hw.cfg, rfl, hw.free⟩
    simp only [Fetched.outcome, exec_decodeCommand]
    exact hpop.offer _ _ _ hf
  · exact h

/-- R127, R130, R144: the command and its address are live in a transmit state; without one both are refused. -/
theorem fetchFrame_sameOutcome : sameOutcome u.fetchFrame.outcome v.fetchFrame.outcome := by
  unfold State.fetchFrame
  rw [← h.txCommand]
  split
  · next c hc =>
    simp only [Fetched.outcome, exec_frameInstr, ← h.targetAddr c hc]
    exact h.issue c _ hc
  · rfl

/-- R129: the frame read, and so the reply, is the environment's. -/
theorem fetchReply_sameOutcome (hf : u.fsm = .pollRead) (hs : u.session = v.session) :
    sameOutcome u.fetchReply.outcome v.fetchReply.outcome := by
  have hread := h.rxRead u.cfg.1.tRead
  have hdrop := (hread.world.setFsm .pollCheck).sameLive_of_session (by simpa using hs) (by simp)
  unfold State.fetchReply State.pollReadAccess State.rxBytes
  rw [← h.world.cfg, ← h.world.rxRead_rx]
  split
  · split
    · next r _ => exact hread.execTelemetryReply r (by simpa using hf) (by simpa using hs)
    · exact hdrop
  · exact hdrop

/-- R140: each micro-state's action answers alike. -/
theorem microFetch_sameOutcome (ready : Bool) :
    sameOutcome (u.microFetch ready).outcome (v.microFetch ready).outcome := by
  unfold State.microFetch
  rw [← h.world.fsm]
  cases hf : u.fsm
  case idle => exact fetchCommand_sameOutcome h hf
  case flushEntry => exact h.flushEntryStep hf
  case pollCheck => exact h.pollCheckStep (h.session hf (by decide))
  case pollPace => exact h.pollPaceStep (h.session hf (by decide))
  case resyncSettle => exact h.resyncSettleStep (h.session hf (by decide))
  case resyncFlush => exact h.resyncFlushStep (h.session hf (by decide))
  case pollRead => exact fetchReply_sameOutcome h hf (h.session hf (by decide))
  case pollTx | resyncTx | oneshotTx => exact fetchFrame_sameOutcome h
  case succeeded | timedOut | done => exact h.terminalStep ready

end

/-- Settles O54: both states meet the same input; it leaves them alike, and so do a reset, a wait, and each micro-state's
action. -/
theorem unspecifiedRegistersAreNeverRead : Obligations.UnspecifiedRegistersAreNeverRead := by
  intro s t h
  have ha : sameLive (s.dropInput.absorb s.nextInput) (t.dropInput.absorb s.nextInput) := by
    simpa only [arrived, h.world.nextInput] using h.arrived
  rw [step_eq_outcome, step_eq_outcome]
  unfold State.fetch
  rw [← h.world.nextInput, ← h.world.fsm]
  split
  · exact ha.resetEvent _
  · split
    · exact ha
    · exact microFetch_sameOutcome ha _

end Sys2Proof.Machine
end

section
/-! The encoded frames byte by byte (R80, R81 to R84), and the fields of a decoded reply (R103 to R108). -/

namespace Sys2Proof.Machine

open Sys2Proof.Safety

/-- R5 (a): a frame whose checksum stands at 4 has no payload. -/
theorem payload_eq_nil (cfg : Config) (c : FrameCmd) (h : csumOff c = 4) : (cfg.1.template c).payload = [] := by
  have hlen := cfg.csumOff_eq c
  exact List.length_eq_zero_iff.mp (by omega)

/-- R5 (a): a frame whose checksum stands at 5 has one payload byte. -/
theorem payload_eq_singleton (cfg : Config) (c : FrameCmd) (h : csumOff c = 5) :
    ∃ p, (cfg.1.template c).payload = [p] := by
  have hlen := cfg.csumOff_eq c
  exact List.length_eq_one_iff.mp (by omega)

/-- R70, R80: the checksum of a frame is the sum of its head, modulo 256. -/
theorem checksumByte_headBytes_toNat (cfg : Config) (c : FrameCmd) (a : Byte) :
    (checksumByte (headBytes cfg c a) (csumOff c)).toNat =
      (0xAA + (cfg.1.template c).cls.toNat + (cfg.1.template c).opcode.toNat + (addressByte cfg c a).toNat +
        ((cfg.1.template c).payload.map BitVec.toNat).sum) % 256 := by
  rw [← headBytes_length cfg c a, checksumByte, checksumSum, List.take_length]
  simp [headBytes, preamble, Nat.add_assoc]

/-- R53: a frame whose checksum stands at 4. -/
theorem encodeFrame_four (cfg : Config) (c : FrameCmd) (a : Byte) (h : csumOff c = 4) :
    ∃ s : Byte,
      s.toNat = (0xAA + (cfg.1.template c).cls.toNat + (cfg.1.template c).opcode.toNat +
        (addressByte cfg c a).toNat) % 256 ∧
      (encodeFrame cfg c a).1 =
        [0xAA, (cfg.1.template c).cls, (cfg.1.template c).opcode, addressByte cfg c a, s] ++
          List.replicate 27 0x00 := by
  have hp := payload_eq_nil cfg c h
  refine ⟨checksumByte (headBytes cfg c a) (csumOff c), ?_, ?_⟩
  · simp [checksumByte_headBytes_toNat, hp]
  · simp [encodeFrame, encodeBytes, headBytes, preamble, hp, h]

/-- R54: a frame whose checksum stands at 5. -/
theorem encodeFrame_five (cfg : Config) (c : FrameCmd) (a : Byte) (h : csumOff c = 5) :
    ∃ p s : Byte, (cfg.1.template c).payload = [p] ∧
      s.toNat = (0xAA + (cfg.1.template c).cls.toNat + (cfg.1.template c).opcode.toNat +
        (addressByte cfg c a).toNat + p.toNat) % 256 ∧
      (encodeFrame cfg c a).1 =
        [0xAA, (cfg.1.template c).cls, (cfg.1.template c).opcode, addressByte cfg c a, p, s] ++
          List.replicate 26 0x00 := by
  obtain ⟨p, hp⟩ := payload_eq_singleton cfg c h
  refine ⟨p, checksumByte (headBytes cfg c a) (csumOff c), hp, ?_, ?_⟩
  · simp [checksumByte_headBytes_toNat, hp]
  · simp [encodeFrame, encodeBytes, headBytes, preamble, hp, h]

/-- R31: a 16-bit field is the big-endian integer of its two bytes. -/
theorem half_toNat (b : List Byte) (i : Nat) (h : i + 1 < b.length) :
    (BitVec.ofNat 16 (256 * b[i].toNat + b[i + 1].toNat) : Half).toNat =
      256 * (b.getD i 0).toNat + (b.getD (i + 1) 0).toNat := by
  rw [List.getD_eq_getElem _ _ (by omega), List.getD_eq_getElem _ _ h, BitVec.toNat_ofNat]
  have := b[i].isLt
  have := b[i + 1].isLt
  omega

/-- R31: a 32-bit field is the big-endian integer of its four bytes. -/
theorem be32_toNat (b : List Byte) (i : Nat) (h : i + 4 ≤ b.length) :
    ∃ w : Wide, be32 b i = some w ∧
      w.toNat = 2 ^ 24 * (b.getD i 0).toNat + 2 ^ 16 * (b.getD (i + 1) 0).toNat +
        2 ^ 8 * (b.getD (i + 2) 0).toNat + (b.getD (i + 3) 0).toNat := by
  refine ⟨_, be32_some b i (by omega), ?_⟩
  rw [List.getD_eq_getElem _ _ (by omega), List.getD_eq_getElem _ _ (by omega), List.getD_eq_getElem _ _ (by omega),
    List.getD_eq_getElem _ _ (by omega), BitVec.toNat_ofNat]
  have := b[i].isLt
  have := b[i + 1].isLt
  have := b[i + 2].isLt
  have := b[i + 3].isLt
  omega

/-- R106 to R108: a field read where `present` holds, and only there, follows the layout. -/
theorem wideField_ite_be32 (b : List Byte) (i : Nat) (present : Prop) [Decidable present]
    (h : present → i + 4 ≤ b.length) : wideField b i present (if present then be32 b i else none) := by
  refine ⟨fun hp => ?_, fun hp => if_neg hp⟩
  rw [if_pos hp]
  exact be32_toNat b i (h hp)

/-- R101: a decoded frame is long enough. -/
theorem minReplyLen_le_of_decodeReply (cfg : Config) (b : List Byte) (r : Reply) (h : decodeReply cfg b = some r) :
    cfg.1.minReplyLen ≤ b.length := by
  by_contra hlt
  rw [decodeReply_short cfg b (by omega)] at h
  cases h

/-- Settles O12: both commands' checksums stand at 4; the request alone biases its address byte. -/
theorem initAndRequestFramesByteByByte : Obligations.InitAndRequestFramesByteByByte := by
  intro cfg a
  refine ⟨encodeFrame_four cfg .init a rfl, ?_⟩
  obtain ⟨s, hs, hbytes⟩ := encodeFrame_four cfg .req a rfl
  exact ⟨a + cfg.1.reqAddrBias, s, BitVec.toNat_add a cfg.1.reqAddrBias, hs, hbytes⟩

/-- Settles O13: both commands' checksums stand at 5. -/
theorem relayFramesByteByByte : Obligations.RelayFramesByteByByte :=
  fun cfg a => ⟨encodeFrame_five cfg .en a rfl, encodeFrame_five cfg .dis a rfl⟩

/-- Settles O15: a decoded frame is long enough for every unconditional field, and a 32-bit field is read exactly where
it is present. -/
theorem replyFieldsFollowTheLayout : Obligations.ReplyFieldsFollowTheLayout := by
  intro cfg b r hr
  obtain ⟨hrt, hu1⟩ := decodeReply_guard cfg b r hr
  have hlen := minReplyLen_le_of_decodeReply cfg b r hr
  obtain ⟨hrLt, huLt, haLt, hvLt, hiLt⟩ := unconditional_lt cfg
  have hv : cfg.1.vIdx + 1 < b.length := by omega
  have hi : cfg.1.iIdx + 1 < b.length := by omega
  rw [decodeReply_long cfg b hlen (by omega) (by omega) (by omega) hv hi] at hr
  split at hr
  · cases hr
    exact ⟨hrt, hu1, List.getElem?_eq_getElem _, half_toNat b _ hv, half_toNat b _ hi,
      wideField_ite_be32 b _ _ id, wideField_ite_be32 b _ _ And.right, wideField_ite_be32 b _ _ And.right⟩
  · cases hr

end Sys2Proof.Machine
end

section
/-! What one step does to the transport's channels and to the waiting command words (R36, R37, R41, R121, R184), and the
frames of POLL_TX and RESYNC_TX. -/

namespace Sys2Proof.Machine

open Sys2Proof.Safety

/-- R121: no row of R140 but an acceptance in IDLE takes a command word. -/
theorem Moves.commands_eq {u t : State} {ready : Bool} (h : Moves u ready t) (hu : u.fsm ≠ .idle) :
    t.env.commands = u.env.commands := by
  cases h
  case idleAccept hf _ _ _ => exact absurd hf hu
  all_goals simp

/-- R37: a row of R140 takes at most the head of the receive queue, and only in a micro-state that reads. -/
theorem Moves.rxQueue_eq {u t : State} {ready : Bool} (h : Moves u ready t) :
    t.env.rxQueue = u.env.rxQueue ∨ u.fsm.reads = true ∧ t.env.rxQueue = u.env.rxQueue.tail := by
  cases h
  case flushHit hf _ | flushMissRead hf _ _ | flushMissOneshot hf _ _ | readMatch hf _ _ _ _ | readDrop hf _ |
      resyncHit hf _ | resyncEnd hf _ =>
    exact Or.inr ⟨by rw [hf]; rfl, by simp⟩
  all_goals exact Or.inl (by simp)

/-- R36: a row of R140 transmits nothing, or the encoded command of its micro-state, which then stands in `tx_buf`. -/
theorem Moves.sent_eq {u t : State} {ready : Bool} (h : Moves u ready t) :
    t.env.sent = u.env.sent ∨
      ∃ c, u.txCommand = some c ∧ t.txBuf = encodeFrame u.cfg c u.session.targetAddr ∧
        t.env.sent = u.env.sent ++ [encodeFrame u.cfg c u.session.targetAddr] := by
  cases h
  case request hf => exact Or.inr ⟨.req, by simp [State.txCommand, hf], by simp, by simp⟩
  case resyncSend hf => exact Or.inr ⟨.init, by simp [State.txCommand, hf], by simp, by simp⟩
  case oneshot hf c hc => exact Or.inr ⟨c, by simpa [State.txCommand, hf] using hc, by simp, by simp⟩
  all_goals exact Or.inl (by simp)

/-- R180, R181: a reset changes the environment by what the outstanding access did, and by no more. -/
theorem State.resetEvent_env (s : State) (took : Bool) :
    (s.resetEvent took).env = if took = true then s.accessTook.env else s.env := by
  cases took <;> rfl

@[simp] theorem State.accessTook_commands (s : State) : s.accessTook.env.commands = s.env.commands := by
  obtain h | ⟨c, -, h⟩ | ⟨-, h⟩ := s.accessTook_eq <;> rw [h] <;> rfl

@[simp] theorem State.resetEvent_commands (s : State) (took : Bool) :
    (s.resetEvent took).env.commands = s.env.commands := by
  rw [s.resetEvent_env]; split <;> simp

/-- R181: a read outstanding at a reset took the head of the receive queue or nothing. -/
theorem State.resetEvent_rxQueue (s : State) (took : Bool) :
    (s.resetEvent took).env.rxQueue = s.env.rxQueue ∨
      s.fsm.reads = true ∧ (s.resetEvent took).env.rxQueue = s.env.rxQueue.tail := by
  rw [s.resetEvent_env]
  split
  · obtain h | ⟨c, -, h⟩ | ⟨hf, h⟩ := s.accessTook_eq <;> rw [h]
    · exact Or.inl rfl
    · exact Or.inl rfl
    · exact Or.inr ⟨hf, rfl⟩
  · exact Or.inl rfl

/-- R181: a transmission outstanding at a reset took effect or did not. -/
theorem State.resetEvent_sent (s : State) (took : Bool) :
    (s.resetEvent took).env.sent = s.env.sent ∨
      ∃ c, s.txCommand = some c ∧
        (s.resetEvent took).env.sent = s.env.sent ++ [encodeFrame s.cfg c s.session.targetAddr] := by
  rw [s.resetEvent_env]
  split
  · obtain h | ⟨c, hc, h⟩ | ⟨-, h⟩ := s.accessTook_eq <;> rw [h]
    · exact Or.inl rfl
    · exact Or.inr ⟨c, hc, rfl⟩
    · exact Or.inl rfl
  · exact Or.inl rfl

/-- R41 (b): what a step, a reset included, does to the receive queue once the step's input is in. -/
theorem step_rxQueue {s t : State} (h : step s = .next t) :
    t.env.rxQueue = (arrived s).env.rxQueue ∨
      s.fsm.reads = true ∧ t.env.rxQueue = (arrived s).env.rxQueue.tail := by
  rw [← arrived_fsm s]
  obtain ⟨took, -, rfl⟩ | ⟨-, -, -, rfl⟩ | ⟨-, -, hm⟩ := step_cases s t h
  · exact (arrived s).resetEvent_rxQueue took
  · exact Or.inl rfl
  · exact hm.rxQueue_eq

/-- R41 (a): what a step, a reset included, does to the transmit channel once the step's input is in; without a reset the
frame sent stands in `tx_buf`. -/
theorem step_sent {s t : State} (h : step s = .next t) :
    t.env.sent = (arrived s).env.sent ∨
      ∃ c, s.txCommand = some c ∧
        (s.nextInput.reset = none → t.txBuf = encodeFrame s.cfg c s.session.targetAddr) ∧
        t.env.sent = (arrived s).env.sent ++ [encodeFrame s.cfg c s.session.targetAddr] := by
  rw [← arrived_txCommand s, ← arrived_cfg s, ← arrived_session s]
  obtain ⟨took, hr, rfl⟩ | ⟨-, -, -, rfl⟩ | ⟨-, -, hm⟩ := step_cases s t h
  · obtain hs | ⟨c, hc, hs⟩ := (arrived s).resetEvent_sent took
    · exact Or.inl hs
    · exact Or.inr ⟨c, hc, by simp [hr], hs⟩
  · exact Or.inl rfl
  · exact hm.sent_eq.imp_right fun ⟨c, hc, htx, hs⟩ => ⟨c, hc, fun _ => htx, hs⟩

theorem State.txCommand_idle {s : State} (h : s.fsm = .idle) : s.txCommand = none := by
  simp [State.txCommand, h]

/-- R184: in IDLE, whatever the step does, the queue loses what another user takes. -/
theorem step_rxQueue_idle {s t : State} (h : step s = .next t) (hf : s.fsm = .idle) :
    t.env.rxQueue = (s.env.rxQueue ++ s.nextInput.arrivals).drop s.nextInput.otherReads := by
  rw [← s.othersTake_idle _ hf, ← arrived_rxQueue]
  obtain hq | ⟨hreads, -⟩ := step_rxQueue h
  · exact hq
  · simp [hf, FsmState.reads] at hreads

/-- R184: in IDLE, whatever the step does, the channel grows by what another user sends. -/
theorem step_sent_idle {s t : State} (h : step s = .next t) (hf : s.fsm = .idle) :
    t.env.sent = s.env.sent ++ s.nextInput.otherWrites := by
  rw [← s.othersSend_idle _ hf, ← arrived_sent]
  obtain hs | ⟨c, hc, -⟩ := step_sent h
  · exact hs
  · simp [State.txCommand_idle hf] at hc

/-- A step depends on the state that has absorbed its input, and on three bits of the input. -/
theorem step_congr {s s' : State} (ha : arrived s = arrived s') (hr : s.nextInput.reset = s'.nextInput.reset)
    (hp : s.nextInput.pending = s'.nextInput.pending) (hk : s.nextInput.rspReady = s'.nextInput.rspReady) :
    step s = step s' := by
  have hf : s.fsm = s'.fsm := by simpa using congrArg State.fsm ha
  unfold arrived at ha
  rw [step_eq_outcome, step_eq_outcome, State.fetch, State.fetch, ha, hr, hp, hk, hf]

/-- R184: a busy engine does not see what another user's part of the input says. -/
theorem State.absorb_others_busy (s : State) (i : Input) (n : Nat) (w : List Frame) (h : s.fsm ≠ .idle) :
    s.absorb { i with otherReads := n, otherWrites := w } = s.absorb i := by
  simp [State.absorb, State.othersTake_busy _ _ h, State.othersSend_busy _ _ h]

/-- Settles O20: `offer` does nothing outside IDLE, and neither a reset, nor a wait, nor a row of R140 that starts outside
IDLE takes a waiting word. -/
theorem busyEngineAcceptsNoCommand : Obligations.BusyEngineAcceptsNoCommand := by
  refine ⟨fun s w hf => ?_, fun s t hf hst => ?_⟩
  · rw [exec_decodeCommand, s.offer_busy _ _ _ hf]
  · rw [← arrived_commands]
    obtain ⟨took, -, rfl⟩ | ⟨-, -, -, rfl⟩ | ⟨-, -, hm⟩ := step_cases s t hst
    · exact (arrived s).resetEvent_commands took
    · rfl
    · exact hm.commands_eq (by simpa using hf)

/-- Settles O43: what a step sends is `step_sent`; while the engine is busy the input sends nothing. -/
theorem onlyTransmitStatesSend : Obligations.OnlyTransmitStatesSend := by
  intro s t hst hr
  refine ⟨step_sent_idle hst, fun hf => ?_⟩
  rw [← arrived_sent_busy s hf]
  exact (step_sent hst).imp_right fun ⟨c, hc, htx, hs⟩ => ⟨c, hc, htx hr, hs⟩

/-- Settles O44: a busy step absorbs its input without the other user's part; in IDLE the engine itself leaves both
channels alone. -/
theorem otherUsersActBetweenOperationsOnly : Obligations.OtherUsersActBetweenOperationsOnly := by
  refine ⟨fun s i rest n w hf => ?_, fun s t hf hst => ⟨step_rxQueue_idle hst hf, step_sent_idle hst hf⟩⟩
  exact step_congr (State.absorb_others_busy { s with env := { s.env with inputs := rest } } i n w hf) rfl rfl rfl

/-- Settles O48: a step takes from the queue what `step_rxQueue` says; what arrived stands behind it. -/
theorem receiveQueueIsFifo : Obligations.ReceiveQueueIsFifo := by
  intro s t hst
  refine ⟨fun hf => ?_, step_rxQueue_idle hst⟩
  rw [← arrived_rxQueue_busy s hf]
  exact step_rxQueue hst

/-- Settles O22: POLL_TX transmits the request. -/
theorem requestIsTransmittedInPollTx : Obligations.RequestIsTransmittedInPollTx := by
  intro s a hf
  have hc : s.txCommand = some .req := by simp [State.txCommand, hf]
  exact congrArg Host.Outcome.next (s.issue_pollTx .req a hf hc)

/-- Settles O23: RESYNC_TX transmits the `InitializeSensor` frame. -/
theorem resyncFrameIsTransmittedInResyncTx : Obligations.ResyncFrameIsTransmittedInResyncTx := by
  intro s a hf
  have hc : s.txCommand = some .init := by simp [State.txCommand, hf]
  exact congrArg Host.Outcome.next (s.issue_resyncTx .init a hf hc)

end Sys2Proof.Machine
end

section
/-! Command words as two bytes (R51, R52, entry 19): each host operation is its word, each word has one spelling. -/

namespace Sys2Proof

open Sys2Proof.Machine

/-- R51, R52: the instruction of a host operation. -/
def hostInstr (op : HostOp) (a : Byte) (active : Bool) : Instr :=
  match op with
  | .initializeOp => .initializeOp a active
  | .enableRelayOp => .enableRelayOp a active
  | .disableRelayOp => .disableRelayOp a active
  | .readTelemetryOp => .readTelemetryOp a active

theorem decodeCommand_eq_hostInstr (w : CommandWord) :
    decodeCommand w = hostInstr (cmdOp w) (cmdAddr w) (cmdActive w) := by
  unfold decodeCommand
  split <;> simp [hostInstr, *]

theorem encode_hostInstr (cfg : Config) (op : HostOp) (a : Byte) (active : Bool) :
    encode cfg (hostInstr op a active) = commandBytes (commandWord op a active) := by
  cases op <;> rfl

theorem encode_frameInstr (cfg : Config) (c : FrameCmd) (a : Byte) :
    encode cfg (frameInstr c a) = encodeBytes cfg c a := by
  cases c <;> rfl

/-- R2: an instruction is a host operation, a frame command or a reply. -/
theorem Instr.host_or_frame_or_reply (i : Instr) :
    (∃ op a active, i = hostInstr op a active) ∨ (∃ c a, i = frameInstr c a) ∨ ∃ r, i = .telemetryReply r := by
  cases i with
  | initializeOp a active => exact .inl ⟨.initializeOp, a, active, rfl⟩
  | enableRelayOp a active => exact .inl ⟨.enableRelayOp, a, active, rfl⟩
  | disableRelayOp a active => exact .inl ⟨.disableRelayOp, a, active, rfl⟩
  | readTelemetryOp a active => exact .inl ⟨.readTelemetryOp, a, active, rfl⟩
  | initializeSensor a => exact .inr (.inl ⟨.init, a, rfl⟩)
  | requestTelemetry a => exact .inr (.inl ⟨.req, a, rfl⟩)
  | enableRelay a => exact .inr (.inl ⟨.en, a, rfl⟩)
  | disableRelay a => exact .inr (.inl ⟨.dis, a, rfl⟩)
  | telemetryReply r => exact .inr (.inr ⟨r, rfl⟩)

/-- R52: all four codes are used, each once. -/
theorem HostOp.code_ofCode (c : BitVec 2) : (HostOp.ofCode c).code = c := by
  revert c; decide

/-- R51: operation, address and active bit are the whole of a command word. -/
theorem commandWord_fields (w : CommandWord) : commandWord (cmdOp w) (cmdAddr w) (cmdActive w) = w := by
  have hbit : BitVec.ofBool (w.getLsbD 10) = w.extractLsb' 10 1 := by
    ext i hi
    obtain rfl : i = 0 := by omega
    simp
  have hupper : w.extractLsb' 10 1 ++ w.extractLsb' 8 2 = w.extractLsb' 8 3 :=
    BitVec.extractLsb'_append_extractLsb'_eq_extractLsb' rfl
  rw [commandWord, cmdOp, HostOp.code_ofCode, cmdAddr, cmdActive, hbit, hupper]
  exact BitVec.extractLsb'_append_extractLsb'

/-- Two bytes whose upper five bits are zero are those of the word they hold. -/
theorem commandBytes_append (lo hi : Byte) (h : hi.extractLsb' 3 5 = 0) :
    commandBytes (hi.extractLsb' 0 3 ++ lo) = [lo, hi] := by
  have hlo : (hi.extractLsb' 0 3 ++ lo).extractLsb' 0 8 = lo := BitVec.extractLsb'_append_eq_right
  have hhi : (hi.extractLsb' 0 3 ++ lo).extractLsb' 8 3 = hi.extractLsb' 0 3 := BitVec.extractLsb'_append_eq_left
  have hwide : (hi.extractLsb' 0 3).setWidth 8 = hi := calc
    (hi.extractLsb' 0 3).setWidth 8 = (0 : BitVec 5) ++ hi.extractLsb' 0 3 := BitVec.setWidth_eq_append (by decide)
    _ = hi := by rw [← h]; exact BitVec.extractLsb'_append_extractLsb'
  rw [commandBytes, hlo, hhi, hwide]

theorem decodeOption_eq_some (cfg : Config) (b : List Byte) (i : Instr) :
    decodeOption cfg b = some i ↔ decodeBytes cfg b = .ok i := by
  unfold decodeOption
  split <;> simp [*]

/-- R51, R52: the two bytes of a host operation decode to it. -/
theorem decodeBytes_commandBytes (cfg : Config) (op : HostOp) (a : Byte) (active : Bool) :
    decodeBytes cfg (commandBytes (commandWord op a active)) = .ok (hostInstr op a active) := by
  calc decodeBytes cfg (commandBytes (commandWord op a active))
      = .ok (decodeCommand (commandWord op a active)) := decodeCommandBytes_commandBytes _
    _ = .ok (hostInstr op a active) := by
        rw [decodeCommand_eq_hostInstr, cmdOp_commandWord, cmdAddr_commandWord, cmdActive_commandWord]

end Sys2Proof
end

section
/-! Outbound frames as bytes (R53 to R57): never a reply, and found again by the decoder in its order of trial. -/

namespace Sys2Proof

open Sys2Proof.Machine Sys2Proof.Safety

/-- R5 (c): a template belongs to one command. -/
theorem Config.template_inj (cfg : Config) {c d : FrameCmd} (h : cfg.1.template c = cfg.1.template d) : c = d := by
  obtain ⟨-, -, hdistinct, -⟩ := cfg.2
  exact List.inj_on_of_nodup_map (List.pairwise_map.mpr hdistinct) c.mem_all d.mem_all h

/-- R5 (b): no command's class and opcode pass the guard. -/
theorem Config.guardHolds_template (cfg : Config) (c : FrameCmd) :
    guardHolds (cfg.1.template c).cls (cfg.1.template c).opcode = false := by
  obtain ⟨-, hguard, -⟩ := cfg.2
  simpa [guardHolds] using hguard c c.mem_all

theorem csumOff_four_or_five (c : FrameCmd) : csumOff c = 4 ∨ csumOff c = 5 := by
  cases c <;> decide

/-! R39, R55, R56: where class, opcode, address byte and payload stand in a frame. -/

theorem encodeBytes_getElem?_one (cfg : Config) (c : FrameCmd) (a : Byte) :
    (encodeBytes cfg c a)[1]? = some (cfg.1.template c).cls := rfl

theorem encodeBytes_getElem?_two (cfg : Config) (c : FrameCmd) (a : Byte) :
    (encodeBytes cfg c a)[2]? = some (cfg.1.template c).opcode := rfl

theorem encodeBytes_getD_three (cfg : Config) (c : FrameCmd) (a : Byte) :
    (encodeBytes cfg c a).getD 3 0 = addressByte cfg c a := rfl

theorem encodeBytes_payload (cfg : Config) (c : FrameCmd) (a : Byte) :
    ((encodeBytes cfg c a).drop 4).take (csumOff c - 4) = (cfg.1.template c).payload := by
  simp [encodeBytes, headBytes, cfg.csumOff_eq c]

/-- R53, R54: among the commands of one format a frame belongs to one. -/
theorem encodeBytes_cmd_inj (cfg : Config) {c d : FrameCmd} {a b : Byte} (hoff : csumOff c = csumOff d)
    (h : encodeBytes cfg c a = encodeBytes cfg d b) : c = d := by
  obtain ⟨hcls, hopcode⟩ := encodeBytes_template cfg c d a b h
  have hpayload : (cfg.1.template c).payload = (cfg.1.template d).payload := by
    rw [← encodeBytes_payload cfg c a, ← encodeBytes_payload cfg d b, h, hoff]
  apply cfg.template_inj
  cases hc : cfg.1.template c
  cases hd : cfg.1.template d
  simp_all

/-- R102: bytes whose guard bytes are others are no reply. -/
theorem decodeReply_unguarded (cfg : Config) (b : List Byte) (rt u1 : Byte) (hrt : b[rtIdx]? = some rt)
    (hu1 : b[u1Idx]? = some u1) (hguard : guardHolds rt u1 = false) : decodeReply cfg b = none := by
  unfold decodeReply
  split
  · rfl
  · split <;> simp_all

/-- R87: an encoded frame is no reply. -/
theorem decodeReply_encodeBytes (cfg : Config) (c : FrameCmd) (a : Byte) :
    decodeReply cfg (encodeBytes cfg c a) = none :=
  decodeReply_unguarded cfg _ _ _ (encodeBytes_getElem?_one cfg c a) (encodeBytes_getElem?_two cfg c a)
    (cfg.guardHolds_template c)

/-- Entry 18: the decoder finds the command of a frame, if no other command of the same or of the shorter format has
that frame. -/
theorem matchOutbound_encodeBytes (cfg : Config) (c : FrameCmd) (a : Byte)
    (h : ∀ d b, csumOff d ≤ csumOff c → encodeBytes cfg d b = encodeBytes cfg c a → d = c) :
    matchOutbound cfg (encodeBytes cfg c a) = some (c, a) := by
  have hmiss : ∀ d b, csumOff d ≤ csumOff c → d ≠ c → encodeBytes cfg c a ≠ encodeBytes cfg d b :=
    fun d b hoff hne he => hne (h d b hoff he.symm)
  simp only [matchOutbound, encodeBytes_getD_three]
  cases c <;> simp [addressOf_addressByte]
  case req => exact hmiss .init _ (by decide) (by decide)
  case en => exact ⟨hmiss .init _ (by decide) (by decide), hmiss .req _ (by decide) (by decide)⟩
  case dis =>
    exact ⟨hmiss .init _ (by decide) (by decide), hmiss .req _ (by decide) (by decide),
      hmiss .en _ (by decide) (by decide)⟩

/-- R53 to R57: the matched frame is the command's encoding. -/
theorem eq_encodeBytes_of_matchOutbound (cfg : Config) (b : List Byte) (c : FrameCmd) (a : Byte)
    (h : matchOutbound cfg b = some (c, a)) : b = encodeBytes cfg c a := by
  obtain ⟨d, hd, heq⟩ := Option.map_eq_some_iff.mp h
  obtain ⟨rfl, rfl⟩ := Prod.mk.inj heq
  simpa using List.find?_some hd

/-- R50: three to 32 bytes are a frame. -/
theorem decodeBytes_frame (cfg : Config) (b : List Byte) (h3 : 3 ≤ b.length) (h32 : b.length ≤ 32) :
    decodeBytes cfg b = decodeFrameBytes cfg b := by
  unfold decodeBytes
  split
  · simp at h3
  · rw [if_pos ⟨h3, h32⟩]

/-- R53 to R57: an outbound frame decodes to its command, a relay frame where no shorter command shares class and opcode. -/
theorem decodeBytes_encodeBytes (cfg : Config) (c : FrameCmd) (a : Byte) (h : relayApart cfg (frameInstr c a)) :
    decodeBytes cfg (encodeBytes cfg c a) = .ok (frameInstr c a) := by
  have hlen := encodeBytes_length cfg c a
  have hmatch : matchOutbound cfg (encodeBytes cfg c a) = some (c, a) := by
    apply matchOutbound_encodeBytes
    intro d b hoff heq
    obtain hlt | hoff := hoff.lt_or_eq
    · have hc := csumOff_four_or_five c
      have hd := csumOff_four_or_five d
      exact absurd (encodeBytes_template cfg c d a b heq.symm) (h c a rfl (by omega) d (by omega))
    · exact encodeBytes_cmd_inj cfg hoff heq
  rw [decodeBytes_frame cfg _ (by omega) (by omega)]
  simp [decodeFrameBytes, decodeReply_encodeBytes, hlen, decodeOutbound, hmatch]

end Sys2Proof
end

section
/-! Replies as bytes (R58 to R62): a well-formed reply is read back from its shortest frame, field by field, and a decoded
reply is well-formed. -/

namespace Sys2Proof

open Sys2Proof.Machine Sys2Proof.Safety

/-- The checks of a well-formed reply as propositions (R38, R60, R62). -/
theorem Reply.wellFormed_iff (cfg : Config) (r : Reply) :
    r.wellFormed cfg = true ↔
      guardHolds r.requestType r.unknown1 = true ∧ replyLen cfg r ≤ 32 ∧
      (r.power.isSome = true ↔ cfg.1.pIdx + 4 ≤ replyLen cfg r) ∧
      (r.amphour.isSome = true ↔ cfg.1.hasEnergy = true ∧ cfg.1.ahIdx + 4 ≤ replyLen cfg r) ∧
      (r.watthour.isSome = true ↔ cfg.1.hasEnergy = true ∧ cfg.1.whIdx + 4 ≤ replyLen cfg r) := by
  have presence (x y : Bool) : (x == y) = true ↔ (x = true ↔ y = true) := by
    rw [beq_iff_eq, Bool.eq_iff_iff]
  simp only [Reply.wellFormed, Reply.guardOk, Reply.fits, Reply.powerOk, Reply.amphourOk, Reply.watthourOk,
    Bool.and_eq_true, presence, decide_eq_true_eq, and_assoc]

/-- R62: a length carries the reply's fields if it is a reply's and reaches the end of each field the reply has. -/
theorem replyLen_le_iff (cfg : Config) (r : Reply) (n : Nat) :
    replyLen cfg r ≤ n ↔
      cfg.1.minReplyLen ≤ n ∧ (r.power.isSome = true → cfg.1.pIdx + 4 ≤ n) ∧
      (r.amphour.isSome = true → cfg.1.ahIdx + 4 ≤ n) ∧ (r.watthour.isSome = true → cfg.1.whIdx + 4 ≤ n) := by
  have field (present : Bool) (stop : Nat) : (if present = true then stop else 0) ≤ n ↔ (present = true → stop ≤ n) := by
    cases present <;> simp
  simp only [replyLen, max_le_iff, field]

/-- R40, R58: the fields the reply carries, each as its first index and length, and the number it holds. -/
def Reply.placedFields (cfg : Config) (r : Reply) : List ((Nat × Nat) × Nat) :=
  [((rtIdx, 1), r.requestType.toNat), ((u1Idx, 1), r.unknown1.toNat), ((cfg.1.addrIdx, 1), r.address.toNat),
    ((cfg.1.vIdx, 2), r.voltageRaw.toNat), ((cfg.1.iIdx, 2), r.currentRaw.toNat)] ++
  ((r.power.map fun w => ((cfg.1.pIdx, 4), w.toNat)).toList ++
  ((r.amphour.map fun w => ((cfg.1.ahIdx, 4), w.toNat)).toList ++
  (r.watthour.map fun w => ((cfg.1.whIdx, 4), w.toNat)).toList))

/-- R5 (d): the fields the reply carries do not overlap. -/
theorem Reply.placedFields_apart (cfg : Config) (r : Reply) :
    (r.placedFields cfg).Pairwise fun f g => f.1.1 + f.1.2 ≤ g.1.1 ∨ g.1.1 + g.1.2 ≤ f.1.1 := by
  rw [← List.pairwise_map (f := Prod.fst) (R := fun a b : Nat × Nat => a.1 + a.2 ≤ b.1 ∨ b.1 + b.2 ≤ a.1)]
  refine List.Pairwise.sublist ?_ (ranges_apart cfg)
  obtain ⟨-, -, -, -, -, p, a, w⟩ := r
  cases p <;> cases a <;> cases w <;> simp [Reply.placedFields, ConfigData.ranges]

/-- R31: among fields that do not overlap, a byte inside one is that field's. -/
theorem findSome?_fieldByte {fields : List ((Nat × Nat) × Nat)}
    (hapart : fields.Pairwise fun f g => f.1.1 + f.1.2 ≤ g.1.1 ∨ g.1.1 + g.1.2 ≤ f.1.1)
    {start width v : Nat} (hmem : ((start, width), v) ∈ fields) {j : Nat} (hj : j < width) :
    fields.findSome? (fun f => fieldByte f.2 f.1.2 f.1.1 (start + j)) =
      some (BitVec.ofNat 8 (v / 256 ^ (width - 1 - j))) := by
  induction fields with
  | nil => cases hmem
  | cons f fs ih =>
    obtain ⟨hf, hapart⟩ := List.pairwise_cons.mp hapart
    rw [List.findSome?_cons]
    obtain rfl | hmem := List.mem_cons.mp hmem
    · rw [fieldByte_hit v width start j hj]
    · have hmiss : fieldByte f.2 f.1.2 f.1.1 (start + j) = none :=
        fieldByte_miss _ _ _ _ (by
          have hf : f.1.1 + f.1.2 ≤ start ∨ start + width ≤ f.1.1 := hf _ hmem
          omega)
      rw [hmiss]
      exact ih hapart hmem

theorem findSome?_cons_or {α β : Type} (f : α → Option β) (x : α) (xs : List α) :
    (x :: xs).findSome? f = (f x).or (xs.findSome? f) := by
  rw [List.findSome?_cons]
  cases f x <;> rfl

theorem findSome?_toList {α β : Type} (f : α → Option β) (o : Option α) : o.toList.findSome? f = o.bind f := by
  cases o <;> simp

/-- R58: the bytes of the frame are those of the fields it carries, 0x00 elsewhere. -/
theorem replyByte_eq_findSome? (cfg : Config) (r : Reply) (i : Nat) :
    replyByte cfg r i = ((r.placedFields cfg).findSome? fun f => fieldByte f.2 f.1.2 f.1.1 i).getD 0x00 := by
  simp only [replyByte, Reply.placedFields, List.findSome?_append, findSome?_cons_or, List.findSome?_nil,
    findSome?_toList, Option.bind_map, Option.or_assoc, Option.or_none]
  rfl

/-- R31, R58: byte `j` of a field the reply carries. -/
theorem replyByte_of_mem {cfg : Config} {r : Reply} {start width v : Nat}
    (hmem : ((start, width), v) ∈ r.placedFields cfg) {j : Nat} (hj : j < width) :
    replyByte cfg r (start + j) = BitVec.ofNat 8 (v / 256 ^ (width - 1 - j)) := by
  rw [replyByte_eq_findSome?, findSome?_fieldByte (r.placedFields_apart cfg) hmem hj, Option.getD_some]

@[simp] theorem replyBytes_length (cfg : Config) (r : Reply) : (replyBytes cfg r).length = replyLen cfg r := by
  simp [replyBytes]

theorem replyBytes_getElem (cfg : Config) (r : Reply) (i : Nat) (h : i < (replyBytes cfg r).length) :
    (replyBytes cfg r)[i] = replyByte cfg r i := by
  simp [replyBytes]

/-- R31: a one-byte field is read back. -/
theorem replyByte_byteField {cfg : Config} {r : Reply} {start : Nat} {v : Byte}
    (hmem : ((start, 1), v.toNat) ∈ r.placedFields cfg) : replyByte cfg r start = v := by
  simpa using replyByte_of_mem hmem (j := 0) (by decide)

/-- R31: a 16-bit field is read back. -/
theorem replyByte_halfField {cfg : Config} {r : Reply} {start : Nat} {v : Half}
    (hmem : ((start, 2), v.toNat) ∈ r.placedFields cfg) :
    BitVec.ofNat 16 (256 * (replyByte cfg r start).toNat + (replyByte cfg r (start + 1)).toNat) = v := by
  have h0 := replyByte_of_mem hmem (j := 0) (by decide)
  have h1 := replyByte_of_mem hmem (j := 1) (by decide)
  rw [Nat.add_zero] at h0
  rw [h0, h1]
  simpa using half_bytes v

/-- R31: a 32-bit field is read back. -/
theorem be32_replyBytes {cfg : Config} {r : Reply} {start : Nat} {v : Wide}
    (hmem : ((start, 4), v.toNat) ∈ r.placedFields cfg) (hlen : start + 4 ≤ replyLen cfg r) :
    be32 (replyBytes cfg r) start = some v := by
  have h0 := replyByte_of_mem hmem (j := 0) (by decide)
  rw [Nat.add_zero] at h0
  rw [be32_some _ _ (by rw [replyBytes_length]; omega)]
  simp only [replyBytes_getElem, h0, replyByte_of_mem hmem (show 1 < 4 by decide),
    replyByte_of_mem hmem (show 2 < 4 by decide), replyByte_of_mem hmem (show 3 < 4 by decide)]
  exact congrArg some (wide_bytes v)

/-- R106 to R108: a 32-bit field that is there exactly where `present` holds is read back, its absence included. -/
theorem ite_be32_replyBytes {cfg : Config} {r : Reply} {start : Nat} {field : Option Wide} {present : Prop}
    [Decidable present] (hpresent : field.isSome = true ↔ present) (hlen : present → start + 4 ≤ replyLen cfg r)
    (hmem : ∀ w, field = some w → ((start, 4), w.toNat) ∈ r.placedFields cfg) :
    (if present then be32 (replyBytes cfg r) start else none) = field := by
  cases field with
  | none => exact if_neg fun hp => by simpa using hpresent.mpr hp
  | some w =>
    have hp := hpresent.mp rfl
    rw [if_pos hp, be32_replyBytes (hmem w rfl) (hlen hp)]

/-- R58 to R62: a well-formed reply is read back from its shortest frame. -/
theorem decodeReply_replyBytes (cfg : Config) (r : Reply) (h : r.wellFormed cfg = true) :
    decodeReply cfg (replyBytes cfg r) = some r := by
  obtain ⟨hguard, -, hp, hah, hwh⟩ := (Reply.wellFormed_iff cfg r).mp h
  obtain ⟨hrt, hu1, ha, hv, hi⟩ := unconditional_lt cfg
  obtain ⟨hmin, -⟩ := (replyLen_le_iff cfg r _).mp le_rfl
  have hpower : powerField cfg (replyBytes cfg r) = r.power := by
    rw [powerField, replyBytes_length]
    exact ite_be32_replyBytes hp id fun w hw => by simp [Reply.placedFields, hw]
  have hamphour : amphourField cfg (replyBytes cfg r) = r.amphour := by
    rw [amphourField, replyBytes_length]
    exact ite_be32_replyBytes hah And.right fun w hw => by simp [Reply.placedFields, hw]
  have hwatthour : watthourField cfg (replyBytes cfg r) = r.watthour := by
    rw [watthourField, replyBytes_length]
    exact ite_be32_replyBytes hwh And.right fun w hw => by simp [Reply.placedFields, hw]
  rw [← replyBytes_length cfg r] at hmin
  rw [decodeReply_long cfg _ hmin (by omega) (by omega) (by omega) (by omega) (by omega)]
  simp only [replyBytes_getElem, hpower, hamphour, hwatthour]
  rw [replyByte_byteField (start := rtIdx) (v := r.requestType) (by simp [Reply.placedFields]),
    replyByte_byteField (start := u1Idx) (v := r.unknown1) (by simp [Reply.placedFields]),
    replyByte_byteField (start := cfg.1.addrIdx) (v := r.address) (by simp [Reply.placedFields]),
    replyByte_halfField (start := cfg.1.vIdx) (v := r.voltageRaw) (by simp [Reply.placedFields]),
    replyByte_halfField (start := cfg.1.iIdx) (v := r.currentRaw) (by simp [Reply.placedFields]), if_pos hguard]

/-- R62: a field that follows the layout is there exactly where `present` holds. -/
theorem isSome_of_wideField {b : List Byte} {i : Nat} {present : Prop} {field : Option Wide}
    (h : wideField b i present field) : field.isSome = true ↔ present := by
  obtain ⟨hsome, hnone⟩ := h
  by_cases hp : present
  · obtain ⟨w, rfl, -⟩ := hsome hp
    simpa using hp
  · simp [hnone hp, hp]

/-- R62: the shortest frame of a decoded reply is no longer than the frame it was decoded from, and has the same fields. -/
theorem wellFormed_of_decodeReply (cfg : Config) (b : List Byte) (r : Reply) (h32 : b.length ≤ 32)
    (h : decodeReply cfg b = some r) : r.wellFormed cfg = true := by
  obtain ⟨hrt, hu1, -, -, -, hp, hah, hwh⟩ := replyFieldsFollowTheLayout cfg b r h
  have hpower := isSome_of_wideField hp
  have hamphour := isSome_of_wideField hah
  have hwatthour := isSome_of_wideField hwh
  have hle : replyLen cfg r ≤ b.length := (replyLen_le_iff cfg r _).mpr
    ⟨minReplyLen_le_of_decodeReply cfg b r h, hpower.mp, fun ha => (hamphour.mp ha).2, fun hw => (hwatthour.mp hw).2⟩
  obtain ⟨-, hpLen, hahLen, hwhLen⟩ := (replyLen_le_iff cfg r _).mp le_rfl
  refine (Reply.wellFormed_iff cfg r).mpr ⟨by simp [guardHolds, guardRt, guardU1, hrt, hu1], hle.trans h32, ?_, ?_, ?_⟩
  · exact ⟨hpLen, fun hl => hpower.mpr (hl.trans hle)⟩
  · exact ⟨fun ha => ⟨(hamphour.mp ha).1, hahLen ha⟩, fun ⟨he, hl⟩ => hamphour.mpr ⟨he, hl.trans hle⟩⟩
  · exact ⟨fun hw => ⟨(hwatthour.mp hw).1, hwhLen hw⟩, fun ⟨he, hl⟩ => hwatthour.mpr ⟨he, hl.trans hle⟩⟩

end Sys2Proof
end

section
/-! The decoder on any bytes (R50): what it can answer, and the obligations on encode and decode. -/

namespace Sys2Proof

open Sys2Proof.Machine Sys2Proof.Safety

/-- R58 to R62: the shortest frame of a well-formed reply decodes to it. -/
theorem decodeBytes_replyBytes (cfg : Config) (r : Reply) (h : r.wellFormed cfg = true) :
    decodeBytes cfg (replyBytes cfg r) = .ok (.telemetryReply r) := by
  obtain ⟨-, h32, -⟩ := (Reply.wellFormed_iff cfg r).mp h
  obtain ⟨hmin, -⟩ := (replyLen_le_iff cfg r _).mp le_rfl
  obtain ⟨-, hu1, -⟩ := unconditional_lt cfg
  have h3 : 3 ≤ (replyBytes cfg r).length := by rw [replyBytes_length]; exact le_trans hu1 hmin
  rw [decodeBytes_frame cfg _ h3 (by rwa [replyBytes_length]), decodeFrameBytes, decodeReply_replyBytes cfg r h]

/-- R51: two bytes that the decoder accepts are those of a command word. -/
theorem decodeCommandBytes_ok {lo hi : Byte} {i : Instr} (h : decodeCommandBytes lo hi = .ok i) :
    ∃ w, [lo, hi] = commandBytes w ∧ i = decodeCommand w := by
  unfold decodeCommandBytes at h
  split at h
  next hzero => exact ⟨_, (commandBytes_append lo hi hzero).symm, (Except.ok.inj h).symm⟩
  next => cases h

/-- R57, R65: a frame accepted as an outbound frame is the encoding of its command. -/
theorem decodeOutbound_ok {cfg : Config} {b : List Byte} {i : Instr} (h : decodeOutbound cfg b = .ok i) :
    ∃ c a, b = encodeBytes cfg c a ∧ i = frameInstr c a := by
  unfold decodeOutbound at h
  split at h
  next c a hm => exact ⟨c, a, eq_encodeBytes_of_matchOutbound cfg b c a hm, (Except.ok.inj h).symm⟩
  next =>
    split at h
    · cases h
    · split at h <;> cases h

/-- R60 to R65: an accepted frame is a reply or an outbound frame. -/
theorem decodeFrameBytes_ok {cfg : Config} {b : List Byte} {i : Instr} (h : decodeFrameBytes cfg b = .ok i) :
    (∃ r, decodeReply cfg b = some r ∧ i = .telemetryReply r) ∨
    (∃ c a, b = encodeBytes cfg c a ∧ i = frameInstr c a) := by
  unfold decodeFrameBytes at h
  split at h
  next r hr => exact .inl ⟨r, hr, (Except.ok.inj h).symm⟩
  next =>
    split at h
    · exact .inr (decodeOutbound_ok h)
    · cases h

/-- Everything the decoder can answer: a command word in its two bytes, a reply, or an outbound frame in its encoding. -/
theorem decodeBytes_cases {cfg : Config} {b : List Byte} {i : Instr} (h : decodeBytes cfg b = .ok i) :
    (∃ w, b = commandBytes w ∧ i = decodeCommand w) ∨
    (∃ r, b.length ≤ 32 ∧ decodeReply cfg b = some r ∧ i = .telemetryReply r) ∨
    (∃ c a, b = encodeBytes cfg c a ∧ i = frameInstr c a) := by
  unfold decodeBytes at h
  split at h
  · exact .inl (decodeCommandBytes_ok h)
  · split at h
    next hlen =>
      obtain ⟨r, hr, hi⟩ | hframe := decodeFrameBytes_ok h
      · exact .inr (.inl ⟨r, hlen.2, hr, hi⟩)
      · exact .inr (.inr hframe)
    next => cases h

theorem wellFormed_hostInstr (cfg : Config) (op : HostOp) (a : Byte) (active : Bool) :
    (hostInstr op a active).wellFormed cfg = true := by
  cases op <;> rfl

theorem wellFormed_frameInstr (cfg : Config) (c : FrameCmd) (a : Byte) : (frameInstr c a).wellFormed cfg = true := by
  cases c <;> rfl

/-- Settles O2: host operations by the fields of their word, frame commands by their format and template, replies field by
field. -/
theorem decodeInvertsEncode : Obligations.DecodeInvertsEncode := by
  intro cfg i hwf hapart
  rw [decodeOption_eq_some]
  obtain ⟨op, a, active, rfl⟩ | ⟨c, a, rfl⟩ | ⟨r, rfl⟩ := i.host_or_frame_or_reply
  · rw [encode_hostInstr, decodeBytes_commandBytes]
  · rw [encode_frameInstr, decodeBytes_encodeBytes cfg c a hapart]
  · exact decodeBytes_replyBytes cfg r hwf

/-- Settles O3: only a reply can be ill-formed, and a decoded one is not. -/
theorem decodedInstructionsAreWellFormed : Obligations.DecodedInstructionsAreWellFormed := by
  intro cfg b i h
  rw [decodeOption_eq_some] at h
  obtain ⟨w, -, rfl⟩ | ⟨r, h32, hr, rfl⟩ | ⟨c, a, -, rfl⟩ := decodeBytes_cases h
  · rw [decodeCommand_eq_hostInstr, wellFormed_hostInstr]
  · exact wellFormed_of_decodeReply cfg b r h32 hr
  · exact wellFormed_frameInstr cfg c a

/-- Settles O4: the decoder answers a command word or a frame command for its own encoding alone. -/
theorem decodedCommandsHaveOneSpelling : Obligations.DecodedCommandsHaveOneSpelling := by
  intro cfg b i h hreply
  rw [decodeOption_eq_some] at h
  obtain ⟨w, rfl, rfl⟩ | ⟨r, -, -, rfl⟩ | ⟨c, a, rfl, rfl⟩ := decodeBytes_cases h
  · rw [decodeCommand_eq_hostInstr, encode_hostInstr, commandWord_fields]
  · exact absurd rfl (hreply r)
  · exact encode_frameInstr cfg c a

/-- R51, R52: the two bytes of a host operation, under any configuration. -/
theorem decodeOption_commandBytes (cfg : Config) (op : HostOp) (a : Byte) (active : Bool) :
    decodeOption cfg (commandBytes (commandWord op a active)) = some (hostInstr op a active) :=
  (decodeOption_eq_some cfg _ _).mpr (decodeBytes_commandBytes cfg op a active)

/-- Settles O1: each pair of bytes is the command word of its operation. -/
theorem commandWordsDecodeAsListed : Obligations.CommandWordsDecodeAsListed := fun cfg =>
  ⟨decodeOption_commandBytes cfg .initializeOp 0x07 false, decodeOption_commandBytes cfg .enableRelayOp 0x07 false,
    decodeOption_commandBytes cfg .disableRelayOp 0x07 false, decodeOption_commandBytes cfg .readTelemetryOp 0x07 false,
    decodeOption_commandBytes cfg .readTelemetryOp 0x07 true, decodeOption_commandBytes cfg .readTelemetryOp 0xFF true,
    decodeOption_commandBytes cfg .enableRelayOp 0x07 true⟩

/-! R112, R113: what the decoder reads. -/

/-- R112: two frames agree on the bytes of a field. -/
def AgreeOn (b b' : List Byte) (p : Nat × Nat) : Prop := ∀ i, p.1 ≤ i → i < p.1 + p.2 → b[i]? = b'[i]?

section
variable {b b' : List Byte}

theorem AgreeOn.getElem? {i : Nat} (h : AgreeOn b b' (i, 1)) : b[i]? = b'[i]? := h i le_rfl (Nat.lt_succ_self i)

theorem AgreeOn.be16 {i : Nat} (h : AgreeOn b b' (i, 2)) (hlen : b.length = b'.length) :
    Machine.be16 b i = Machine.be16 b' i := by
  rw [Machine.be16, Machine.be16, memRead_congr b b' i 2 hlen h]

theorem AgreeOn.be32 {i : Nat} (h : AgreeOn b b' (i, 4)) (hlen : b.length = b'.length) :
    Machine.be32 b i = Machine.be32 b' i := by
  rw [Machine.be32, Machine.be32, memRead_congr b b' i 4 hlen h]

end

/-- R112: the six fields of every revision are examined. -/
theorem mem_examined_of_mem_take (cfg : Config) {p : Nat × Nat} (h : p ∈ cfg.1.ranges.take 6) : p ∈ examined cfg := by
  unfold examined
  split
  · exact List.mem_of_mem_take h
  · exact h

/-- R113: the energy fields are examined where the revision has them. -/
theorem mem_examined_of_hasEnergy (cfg : Config) (he : cfg.1.hasEnergy = true) {p : Nat × Nat} (h : p ∈ cfg.1.ranges) :
    p ∈ examined cfg := by
  rwa [examined, if_pos he]

/-- Settles O16: every byte the decoder reads belongs to an examined field, and every presence test is on the length. -/
theorem decodeSeesOnlyExaminedBytes : Obligations.DecodeSeesOnlyExaminedBytes := by
  intro cfg b b' hlen hagree
  have base (p : Nat × Nat) (hp : p ∈ cfg.1.ranges.take 6) : AgreeOn b b' p :=
    hagree p (mem_examined_of_mem_take cfg hp)
  have energy (start : Nat) (hmem : (start, 4) ∈ cfg.1.ranges) :
      (if cfg.1.hasEnergy ∧ start + 4 ≤ b.length then be32 b start else none) =
        if cfg.1.hasEnergy ∧ start + 4 ≤ b'.length then be32 b' start else none := by
    rw [hlen]
    refine ite_congr rfl (fun ⟨he, _⟩ => ?_) fun _ => rfl
    exact AgreeOn.be32 (hagree _ (mem_examined_of_hasEnergy cfg he hmem)) hlen
  have hrt := (base (rtIdx, 1) (by simp [ConfigData.ranges])).getElem?
  have hu1 := (base (u1Idx, 1) (by simp [ConfigData.ranges])).getElem?
  have ha := (base (cfg.1.addrIdx, 1) (by simp [ConfigData.ranges])).getElem?
  have hv := (base (cfg.1.vIdx, 2) (by simp [ConfigData.ranges])).be16 hlen
  have hi := (base (cfg.1.iIdx, 2) (by simp [ConfigData.ranges])).be16 hlen
  have hp := (base (cfg.1.pIdx, 4) (by simp [ConfigData.ranges])).be32 hlen
  have hpower : powerField cfg b = powerField cfg b' := by rw [powerField, powerField, hlen, hp]
  have hamphour : amphourField cfg b = amphourField cfg b' := energy cfg.1.ahIdx (by simp [ConfigData.ranges])
  have hwatthour : watthourField cfg b = watthourField cfg b' := energy cfg.1.whIdx (by simp [ConfigData.ranges])
  unfold decodeReply
  rw [hlen, hrt, hu1, ha, hv, hi, hpower, hamphour, hwatthour]

end Sys2Proof
end

section
/-! What POLL_READ does with noise and with another sensor's reply (R61, R129), and the active bit of the one-shot
operations (R51, D36). -/

namespace Sys2Proof.Machine

open Sys2Proof.Safety

/-- R129: a miss in POLL_READ goes on to the next iteration. -/
theorem State.fetchReply_miss (u : State) (hq : u.env.rxQueue = []) :
    u.fetchReply = .auto ((u.rxRead u.cfg.1.tRead).setFsm .pollCheck) := by
  simp [State.fetchReply, State.pollReadAccess, hq]

/-- R61, R129: so does a frame that is no reply. -/
theorem State.fetchReply_noise (u : State) (f : RxFrame) (q : List RxFrame) (hq : u.env.rxQueue = f :: q)
    (hd : decodeReply u.cfg f.1 = none) :
    u.fetchReply = .auto ((u.rxRead u.cfg.1.tRead).setFsm .pollCheck) := by
  simp [State.fetchReply, State.pollReadAccess, hq, u.rxRead_rxBytes _ f q hq, hd]

/-- R140: an acting step in POLL_READ is the read and what follows from it. -/
theorem step_pollRead (s : State) (hact : acting s) (hf : s.fsm = .pollRead) :
    step s = (arrived s).fetchReply.outcome := by
  obtain ⟨hreset, hpending⟩ := hact
  rw [step_eq_outcome, fetch_acting s hreset (by simp [hpending])]
  simp [State.microFetch, hf]

/-- Settles O32: by the two cases of the read. -/
theorem noiseAndMissesStartTheNextIteration : Obligations.NoiseAndMissesStartTheNextIteration := by
  intro s hact hf
  rw [step_pollRead s hact hf, ← arrived_cfg s]
  refine ⟨fun hq => ?_, fun f q hq hd => ?_⟩
  · rw [State.fetchReply_miss _ hq]; rfl
  · rw [State.fetchReply_noise _ f q hq hd]; rfl

/-- R129: in POLL_READ a reply of another address is dropped. -/
theorem exec_telemetryReply_foreign (s : State) (r : Reply) (hf : s.fsm = .pollRead)
    (ha : r.address ≠ s.session.targetAddr) : exec (.telemetryReply r) s = .next (s.setFsm .pollCheck) := by
  simp [exec, execTelemetryReply, hf, ha]

/-- Settles O28: the drop is the transition to POLL_CHECK alone. -/
theorem foreignReplyIsDropped : Obligations.ForeignReplyIsDropped :=
  fun s r hf ha => exec_telemetryReply_foreign s r hf ha

/-- R51, D36: of the word of a one-shot operation only operation and address are live. -/
theorem sameLive_offer_oneshot (s : State) (op : HostOp) (a : Byte) (active active' : Bool)
    (hop : op ≠ .readTelemetryOp) : sameLive (s.offer op a active) (s.offer op a active') := by
  by_cases hf : s.fsm = .idle
  · rw [s.offer_idle op a active hf, s.offer_idle op a active' hf]
    exact ⟨rfl, rfl, rfl, rfl, rfl, rfl, fun h => absurd h hop⟩
  · rw [s.offer_busy op a active hf, s.offer_busy op a active' hf]
    exact SameWorld.sameLive_of_regs ⟨rfl, rfl, rfl, rfl⟩ rfl fun _ => rfl

/-- Settles O21: each of the three is `offer` with an operation other than `read_telemetry`. -/
theorem activeBitIsIgnoredByOneShots : Obligations.ActiveBitIsIgnoredByOneShots := by
  intro s a
  refine ⟨?_, ?_, ?_⟩ <;> exact sameLive_offer_oneshot s _ a true false (by decide)

end Sys2Proof.Machine
end

section
/-! The checksum generator (40_checksum.md): its two functions inside and outside their domain (R73), what the sum depends
on (R70, R72), and `apply_checksum` as the update of one byte (R71). -/

namespace Sys2Proof.Machine

/-! `compute_checksum` (R70, R72, R73). -/

theorem computeChecksum_of_le {bytes : List Byte} {offset : Nat} (h : offset ≤ bytes.length) :
    computeChecksum bytes offset = some (checksumByte bytes offset) :=
  if_pos h

theorem computeChecksum_of_length_lt {bytes : List Byte} {offset : Nat} (h : bytes.length < offset) :
    computeChecksum bytes offset = none :=
  if_neg (Nat.not_le.mpr h)

/-- R70: wrapping at 8 bits is reduction modulo 256. -/
theorem checksumByte_toNat (bytes : List Byte) (offset : Nat) :
    (checksumByte bytes offset).toNat = ((bytes.take offset).map BitVec.toNat).sum % 256 :=
  BitVec.toNat_ofNat _ 8

/-- R70, R72: the sum is commutative. -/
theorem checksumByte_eq_of_perm {b b' : List Byte} {offset : Nat} (h : (b.take offset).Perm (b'.take offset)) :
    checksumByte b offset = checksumByte b' offset :=
  congrArg (BitVec.ofNat 8) (h.map BitVec.toNat).sum_eq

/-- R70: the byte at the offset does not enter the sum. -/
theorem checksumByte_set (bytes : List Byte) (offset : Nat) (v : Byte) :
    checksumByte (bytes.set offset v) offset = checksumByte bytes offset :=
  checksumByte_eq_of_perm (.of_eq (List.take_set_of_le (Nat.le_refl offset)))

/-! `apply_checksum` (R71, R73). -/

/-- R35: a write of one byte is the list update. -/
theorem memWrite_singleton {buf : List Byte} {i : Nat} (h : i < buf.length) (v : Byte) :
    memWrite buf i [v] = some (buf.set i v) := by
  simp [memWrite, List.set_eq_take_append_cons_drop, h, Nat.succ_le_of_lt h]

theorem applyChecksum_of_lt {bytes : List Byte} {offset : Nat} (h : offset < bytes.length) :
    applyChecksum bytes offset = some (bytes.set offset (checksumByte bytes offset)) := by
  rw [applyChecksum, computeChecksum_of_le h.le]
  exact memWrite_singleton h _

/-- R73: at the length the checksum is computed and the write refused; beyond it there is no checksum either. -/
theorem applyChecksum_of_length_le {bytes : List Byte} {offset : Nat} (h : bytes.length ≤ offset) :
    applyChecksum bytes offset = none := by
  rw [applyChecksum]
  obtain rfl | hlt := h.eq_or_lt
  · rw [computeChecksum_of_le le_rfl]
    exact if_neg (Nat.not_succ_le_self _)
  · rw [computeChecksum_of_length_lt hlt]

/-- R71: the byte that a second application writes is the one already there. -/
theorem applyChecksum_set_checksumByte {bytes : List Byte} {offset : Nat} (h : offset < bytes.length) :
    applyChecksum (bytes.set offset (checksumByte bytes offset)) offset =
      some (bytes.set offset (checksumByte bytes offset)) := by
  rw [applyChecksum_of_lt (by rwa [List.length_set]), checksumByte_set, List.set_set]

/-! The obligations. -/

/-- Settles O6: the two branches of `compute_checksum`. -/
theorem checksumIsTheSumModulo256 : Obligations.ChecksumIsTheSumModulo256 :=
  fun bytes offset =>
    ⟨fun h => ⟨checksumByte bytes offset, computeChecksum_of_le h, checksumByte_toNat bytes offset⟩,
      computeChecksum_of_length_lt⟩

/-- Settles O7: both checksums are defined, and a permutation keeps the sum. -/
theorem checksumIgnoresOrderAndLaterBytes : Obligations.ChecksumIgnoresOrderAndLaterBytes := by
  intro b b' offset h h' hperm
  rw [computeChecksum_of_le h, computeChecksum_of_le h', checksumByte_eq_of_perm hperm]

/-- Settles O8: below the length `apply_checksum` is a list update with a byte that does not depend on the byte it
replaces; at and beyond the length it is refused. -/
theorem applyChecksumWritesOneByte : Obligations.ApplyChecksumWritesOneByte := by
  refine fun bytes offset => ⟨fun h => ?_, applyChecksum_of_length_le⟩
  refine ⟨bytes.set offset (checksumByte bytes offset), applyChecksum_of_lt h, List.length_set, ?_, fun j hj => ?_,
    applyChecksum_set_checksumByte h⟩
  · rw [List.getElem?_set_self h, computeChecksum_of_le h.le]
  · exact List.getElem?_set_ne hj.symm

end Sys2Proof.Machine
end


section
/-! The frame encoder (41_frame_encoder.md): an encoded frame as `apply_checksum` of a zeroed buffer that holds the head
(R80), and from that its checksum and padding (R86); its length (R85), and that it is no reply (R87). -/

namespace Sys2Proof.Machine

/-! The head followed by zeros (R80). -/

/-- R80: the zeroed 32-byte buffer with the head filled in, before the checksum. -/
def headBuffer (cfg : Config) (c : FrameCmd) (a : Byte) : List Byte :=
  headBytes cfg c a ++ List.replicate (32 - csumOff c) 0x00

theorem csumOff_lt_headBuffer_length (cfg : Config) (c : FrameCmd) (a : Byte) :
    csumOff c < (headBuffer cfg c a).length := by
  have hlt := csumOff_lt c
  rw [headBuffer, List.length_append, headBytes_length, List.length_replicate]
  omega

/-- R80: from the checksum's offset on the buffer holds zeros. -/
theorem headBuffer_getElem?_zero (cfg : Config) (c : FrameCmd) (a : Byte) {j : Nat} (hj : csumOff c ≤ j)
    (hj31 : j ≤ 31) : (headBuffer cfg c a)[j]? = some 0x00 := by
  rw [headBuffer, List.getElem?_append_right (by rwa [headBytes_length]), headBytes_length]
  exact List.getElem?_replicate_of_lt (by omega)

/-- R80: the two constructions differ in one byte of the padding, which the checksum replaces. -/
theorem encodeBytes_eq_set (cfg : Config) (c : FrameCmd) (a : Byte) :
    encodeBytes cfg c a = (headBuffer cfg c a).set (csumOff c) (checksumByte (headBuffer cfg c a) (csumOff c)) := by
  have hlen := headBytes_length cfg c a
  have hlt := csumOff_lt c
  have hsum : checksumByte (headBuffer cfg c a) (csumOff c) = checksumByte (headBytes cfg c a) (csumOff c) :=
    checksumByte_append _ _ _ hlen.ge
  have hpad : 32 - csumOff c = (32 - (csumOff c + 1)) + 1 := by omega
  rw [hsum, headBuffer, List.set_append_right _ _ hlen.le, hlen, Nat.sub_self, hpad, List.replicate_succ,
    List.set_cons_zero, encodeBytes, List.append_assoc, List.singleton_append]

/-- R86: the frame's own checksum is the byte written into the buffer. -/
theorem checksumByte_encodeBytes (cfg : Config) (c : FrameCmd) (a : Byte) :
    checksumByte (encodeBytes cfg c a) (csumOff c) = checksumByte (headBuffer cfg c a) (csumOff c) := by
  rw [encodeBytes_eq_set, checksumByte_set]

/-! Preamble, checksum and padding of a frame (R86). -/

theorem encodeBytes_getElem?_zero (cfg : Config) (c : FrameCmd) (a : Byte) :
    (encodeBytes cfg c a)[0]? = some preamble := rfl

theorem encodeBytes_getElem?_csumOff (cfg : Config) (c : FrameCmd) (a : Byte) :
    (encodeBytes cfg c a)[csumOff c]? = computeChecksum (encodeBytes cfg c a) (csumOff c) := by
  have hle : csumOff c ≤ (encodeBytes cfg c a).length := by rw [encodeBytes_length]; exact (csumOff_lt c).le
  rw [computeChecksum_of_le hle, checksumByte_encodeBytes, encodeBytes_eq_set,
    List.getElem?_set_self (csumOff_lt_headBuffer_length cfg c a)]

theorem encodeBytes_getElem?_padding (cfg : Config) (c : FrameCmd) (a : Byte) {j : Nat} (hj : csumOff c < j)
    (hj31 : j ≤ 31) : (encodeBytes cfg c a)[j]? = some 0x00 := by
  rw [encodeBytes_eq_set, List.getElem?_set_ne hj.ne, headBuffer_getElem?_zero cfg c a hj.le hj31]

/-! The obligations. -/

/-- Settles O5: a frame's class and opcode stand where a reply's guard bytes do, and no template passes the guard. -/
theorem encodedFramesAreNoReply : Obligations.EncodedFramesAreNoReply :=
  decodeReply_encodeBytes

/-- Settles O10: `apply_checksum` writes the one byte in which the frame differs from the buffer. -/
theorem encodeIsApplyChecksumOnAZeroedBuffer : Obligations.EncodeIsApplyChecksumOnAZeroedBuffer := by
  intro cfg c a
  rw [encodeBytes_eq_set]
  exact applyChecksum_of_lt (csumOff_lt_headBuffer_length cfg c a)

/-- Settles O11: the checksum does not depend on the byte that holds it, and the other bytes are the buffer's. -/
theorem encodedFramesCarryTheirChecksum : Obligations.EncodedFramesCarryTheirChecksum :=
  fun cfg c a => ⟨encodeBytes_getElem?_csumOff cfg c a, encodeBytes_getElem?_zero cfg c a,
    fun _ hj hj31 => encodeBytes_getElem?_padding cfg c a hj hj31⟩

/-- Settles O9: head, checksum and padding add up to 32. -/
theorem framesHaveThirtyTwoBytes : Obligations.FramesHaveThirtyTwoBytes :=
  encodeBytes_length

end Sys2Proof.Machine
end

section
/-! When the decoder answers a reply (R101, R102), and that under the invariant every step answers a next state (R111,
R160). -/

namespace Sys2Proof.Machine

open Sys2Proof.Safety

/-! The decoder. -/

/-- R102: a frame passes the guard when its two guard bytes are the fixed ones. -/
theorem guardHolds_getElem_iff (b : List Byte) (hr : rtIdx < b.length) (hu : u1Idx < b.length) :
    guardHolds b[rtIdx] b[u1Idx] = true ↔ b[rtIdx]? = some guardRt ∧ b[u1Idx]? = some guardU1 := by
  rw [guardHolds, Bool.and_eq_true, beq_iff_eq, beq_iff_eq, List.getElem?_eq_getElem hr, List.getElem?_eq_getElem hu,
    Option.some_inj, Option.some_inj]

/-- R102: after the length test the guard alone decides. -/
theorem decodeReply_isSome_of_long (cfg : Config) (b : List Byte) (h : cfg.1.minReplyLen ≤ b.length) :
    (decodeReply cfg b).isSome = true ↔ b[rtIdx]? = some guardRt ∧ b[u1Idx]? = some guardU1 := by
  obtain ⟨hrt, hu1, ha, hv, hi⟩ := unconditional_lt cfg
  have hr : rtIdx < b.length := hrt.trans_le h
  have hu : u1Idx < b.length := hu1.trans_le h
  rw [decodeReply_long cfg b h hr hu (ha.trans_le h) (hv.trans_le h) (hi.trans_le h), Option.isSome_ite]
  exact guardHolds_getElem_iff b hr hu

/-- Settles O14: a short frame is no reply whatever its bytes, and a long one is decided by the guard. -/
theorem replyExactlyWhenLongAndGuarded : Obligations.ReplyExactlyWhenLongAndGuarded := by
  intro cfg b
  by_cases hlen : cfg.1.minReplyLen ≤ b.length
  · exact (decodeReply_isSome_of_long cfg b hlen).trans (and_iff_right hlen).symm
  · simp [decodeReply_short cfg b (Nat.not_le.mp hlen), hlen]

/-! The step. -/

/-- R160: every instruction answers a next state, wherever it runs. -/
theorem exec_answers (i : Instr) (s : State) : ∃ t : State, exec i s = .next t := by
  cases i
  case telemetryReply r =>
    simp only [exec, execTelemetryReply]
    split_ifs <;> exact ⟨_, rfl⟩
  all_goals exact ⟨_, rfl⟩

/-- R160: what is fetched answers a next state unless it is a stop. -/
theorem Fetched.outcome_answers {f : Fetched} (h : ∀ r, f ≠ .stop r) : ∃ t : State, f.outcome = .next t := by
  cases f with
  | instr i s => exact exec_answers i s
  | auto s => exact ⟨s, rfl⟩
  | stop r => exact absurd rfl (h r)

/-- R144: only `read_telemetry` has no frame command of its own. -/
theorem cmdOf_ne_none {op : HostOp} (h : op ≠ .readTelemetryOp) : cmdOf op ≠ none := by
  cases op
  case readTelemetryOp => exact absurd rfl h
  all_goals simp [cmdOf]

theorem State.fetchCommand_ne_stop (u : State) (r : Refusal) : u.fetchCommand ≠ .stop r := by
  unfold State.fetchCommand
  split <;> simp

/-- R111: a frame that is no reply is no fault. -/
theorem State.fetchReply_ne_stop (u : State) (r : Refusal) : u.fetchReply ≠ .stop r := by
  unfold State.fetchReply
  split
  · split <;> simp
  · simp

theorem State.fetchFrame_ne_stop {u : State} (h : u.txCommand ≠ none) (r : Refusal) : u.fetchFrame ≠ .stop r := by
  obtain ⟨c, hc⟩ := Option.ne_none_iff_exists'.mp h
  simp [State.fetchFrame, hc]

/-- R143, R144: the one stop is ONESHOT_TX with `read_telemetry`, which the invariant shuts out. -/
theorem microFetch_ne_stop {u : State} (hu : Inv u) (ready : Bool) (r : Refusal) : u.microFetch ready ≠ .stop r := by
  cases hf : u.fsm <;> simp only [State.microFetch, hf]
  case idle => exact u.fetchCommand_ne_stop r
  case pollRead => exact u.fetchReply_ne_stop r
  case pollTx | resyncTx => exact State.fetchFrame_ne_stop (by simp [State.txCommand, hf]) r
  case oneshotTx =>
    refine State.fetchFrame_ne_stop ?_ r
    simpa only [State.txCommand, hf] using cmdOf_ne_none (hu.oneshot (Or.inl hf))
  all_goals simp

/-- R180, R139 (f): a reset and an access that has not ended are no stop either. -/
theorem fetch_ne_stop {s : State} (hs : Inv s) (r : Refusal) : s.fetch ≠ .stop r := by
  unfold State.fetch
  split
  · simp
  · split
    · simp
    · exact microFetch_ne_stop hs.arrived _ r

/-- Settles O53: a step answers what it fetches, and under the invariant it never fetches a stop. -/
theorem engineNeverStops : Obligations.EngineNeverStops := by
  intro s hs
  rw [step_eq_outcome]
  exact Fetched.outcome_answers (fetch_ne_stop hs)

end Sys2Proof.Machine
end

section
/-! The protocol's rows one by one: a step runs exactly the row of R140 whose conditions hold (the converse of
`step_cases`), and what each micro-state's step is (R121 to R144). -/

namespace Sys2Proof.Machine

open Sys2Proof.Safety

theorem State.txCommand_pollTx {s : State} (hf : s.fsm = .pollTx) : s.txCommand = some .req := by
  simp [State.txCommand, hf]

theorem State.txCommand_resyncTx {s : State} (hf : s.fsm = .resyncTx) : s.txCommand = some .init := by
  simp [State.txCommand, hf]

theorem State.txCommand_oneshotTx {s : State} (hf : s.fsm = .oneshotTx) : s.txCommand = cmdOf s.session.curOp := by
  simp [State.txCommand, hf]

/-- R120: only the three transmit states have a command to send. -/
theorem State.transmits_of_txCommand {s : State} {c : FrameCmd} (h : s.txCommand = some c) :
    s.fsm = .pollTx ∨ s.fsm = .resyncTx ∨ s.fsm = .oneshotTx := by
  cases hf : s.fsm <;> simp_all [State.txCommand]

/-- R121: in IDLE a waiting word is taken from the port. -/
theorem State.fetchCommand_cons (u : State) (w : CommandWord) (rest : List CommandWord)
    (hc : u.env.commands = w :: rest) :
    u.fetchCommand = .instr (decodeCommand w) (u.setEnv { u.env with commands := rest }) := by
  simp [State.fetchCommand, hc]

theorem State.microFetch_idle {u : State} {ready : Bool} (hf : u.fsm = .idle) :
    u.microFetch ready = u.fetchCommand := by
  simp [State.microFetch, hf]

/-- R129: a frame that decodes to a reply is given to that reply's instruction, after the read. -/
theorem State.fetchReply_reply (u : State) (r : Reply) (hq : u.env.rxQueue ≠ [])
    (hd : decodeReply u.cfg (u.rxRead u.cfg.1.tRead).rxBytes = some r) :
    u.fetchReply = .instr (.telemetryReply r) (u.rxRead u.cfg.1.tRead) := by
  simp [State.fetchReply, State.pollReadAccess, hq, hd]

/-- R127, R130, R144: a transmit state issues its command. -/
theorem outcome_microFetch_tx (u : State) (ready : Bool) (c : FrameCmd) (hc : u.txCommand = some c) :
    (u.microFetch ready).outcome = .next (u.issue c u.session.targetAddr) := by
  rw [microFetch_tx u ready c hc]
  exact exec_frameInstr c _ u

/-- R138, R188: a terminal state waits for the host. -/
theorem State.microFetch_terminal (u : State) (ready : Bool) (h : u.rspValid = true) :
    u.microFetch ready = .auto (u.terminalStep ready) := by
  cases hf : u.fsm <;> simp_all [State.microFetch, State.rspValid]

/-- R129, R61: the read that is reported and the reads that are not. -/
theorem outcome_fetchReply_match (u : State) (hf : u.fsm = .pollRead) (r : Reply) (hq : u.env.rxQueue ≠ [])
    (hd : decodeReply u.cfg (u.rxRead u.cfg.1.tRead).rxBytes = some r) (ha : r.address = u.session.targetAddr) :
    u.fetchReply.outcome = .next ((u.rxRead u.cfg.1.tRead).succeed r) := by
  rw [u.fetchReply_reply r hq hd]
  exact exec_telemetryReply_match _ r (by simpa using hf) (by simpa using ha)

theorem outcome_fetchReply_drop (u : State) (hf : u.fsm = .pollRead)
    (hn : u.env.rxQueue = [] ∨ ∀ r, decodeReply u.cfg (u.rxRead u.cfg.1.tRead).rxBytes = some r →
      r.address ≠ u.session.targetAddr) :
    u.fetchReply.outcome = .next ((u.rxRead u.cfg.1.tRead).setFsm .pollCheck) := by
  cases hq : u.env.rxQueue with
  | nil => rw [u.fetchReply_miss hq]; rfl
  | cons f q =>
    cases hd : decodeReply u.cfg f.1 with
    | none => rw [u.fetchReply_noise f q hq hd]; rfl
    | some r =>
      rw [← u.rxRead_rxBytes u.cfg.1.tRead f q hq] at hd
      have ha : r.address ≠ u.session.targetAddr := (hn.resolve_left (by simp [hq])) r hd
      rw [u.fetchReply_reply r (by simp [hq]) hd]
      exact exec_telemetryReply_foreign _ r (by simpa using hf) (by simpa using ha)

/-- R140: a micro-state takes the row whose conditions hold; with `microFetch_cases`, it takes no other. -/
theorem Moves.outcome_microFetch {u t : State} {ready : Bool} (h : Moves u ready t) :
    (u.microFetch ready).outcome = .next t := by
  have auto {v : State} (hv : u.microFetch ready = .auto v) : (u.microFetch ready).outcome = .next v := by
    rw [hv]; rfl
  cases h
  case idleWait hf hc => exact auto (by simp [State.microFetch, hf, State.fetchCommand, hc])
  case idleAccept hf w rest hc =>
    rw [State.microFetch_idle hf, u.fetchCommand_cons w rest hc, Fetched.outcome, exec_decodeCommand]
    rw [State.offer_idle (h := by simpa using hf)]
  case flushHit hf hq => exact auto (by simp [State.microFetch, hf, State.flushEntryStep, hq])
  case flushMissRead hf hq ho => exact auto (by simp [State.microFetch, hf, State.flushEntryStep, hq, ho])
  case flushMissOneshot hf hq ho => exact auto (by simp [State.microFetch, hf, State.flushEntryStep, hq, ho])
  case deadline hf hd => exact auto (by simp only [State.microFetch, hf, State.pollCheckStep, hd, if_true])
  case resync hf hd hr =>
    exact auto (by simp only [State.microFetch, hf, State.pollCheckStep, hd, hr, if_true, if_false])
  case iterate hf hd hr =>
    exact auto (by simp only [State.microFetch, hf, State.pollCheckStep, hd, hr, if_false])
  case request hf =>
    have hc := State.txCommand_pollTx hf
    rw [outcome_microFetch_tx u ready _ hc, u.issue_pollTx _ _ hf hc]
  case pace hf => exact auto (by simp [State.microFetch, hf])
  case readMatch hf r hq hd ha =>
    simpa only [State.microFetch, hf] using outcome_fetchReply_match u hf r hq hd ha
  case readDrop hf hn => simpa only [State.microFetch, hf] using outcome_fetchReply_drop u hf hn
  case resyncSend hf =>
    have hc := State.txCommand_resyncTx hf
    rw [outcome_microFetch_tx u ready _ hc, u.issue_resyncTx _ _ hf hc]
  case settle hf => exact auto (by simp [State.microFetch, hf])
  case resyncHit hf hq => exact auto (by simp [State.microFetch, hf, State.resyncFlushStep, hq])
  case resyncEnd hf hq => exact auto (by simp [State.microFetch, hf, State.resyncFlushStep, hq])
  case oneshot hf c hc =>
    have htx : u.txCommand = some c := (State.txCommand_oneshotTx hf).trans hc
    rw [outcome_microFetch_tx u ready c htx, u.issue_oneshotTx c _ hf htx]
  case hold hv hr => exact auto (by rw [u.microFetch_terminal ready hv, hr]; rfl)
  case taken hv hr => exact auto (by rw [u.microFetch_terminal ready hv, hr]; rfl)

/-- R140: where no reset comes and nothing is waited for, the step is the micro-state's action. -/
theorem step_eq_microFetch {s : State} (hr : s.nextInput.reset = none)
    (hp : (s.nextInput.pending && s.fsm.waits) = false) :
    step s = ((arrived s).microFetch s.nextInput.rspReady).outcome := by
  rw [step_eq_outcome, fetch_acting s hr hp]

/-- R140: a row whose conditions hold is the step. -/
theorem step_of_moves {s t : State} (hr : s.nextInput.reset = none)
    (hp : (s.nextInput.pending && s.fsm.waits) = false) (h : Moves (arrived s) s.nextInput.rspReady t) :
    step s = .next t :=
  (step_eq_microFetch hr hp).trans h.outcome_microFetch

section
variable {s : State} (h : acting s)
include h

theorem acting_pending_waits : (s.nextInput.pending && s.fsm.waits) = false := by
  obtain ⟨-, hp⟩ := h
  simp [hp]

theorem acting_step_eq_microFetch : step s = ((arrived s).microFetch s.nextInput.rspReady).outcome :=
  step_eq_microFetch (And.left h) (acting_pending_waits h)

theorem acting_step_of_moves {t : State} (hm : Moves (arrived s) s.nextInput.rspReady t) : step s = .next t :=
  step_of_moves (And.left h) (acting_pending_waits h) hm

/-- R127, R130, R144: the step of a transmit state runs its frame command. -/
theorem acting_step_tx (c : FrameCmd) (hc : s.txCommand = some c) :
    step s = exec (frameInstr c s.session.targetAddr) (arrived s) := by
  rw [acting_step_eq_microFetch h, microFetch_tx (arrived s) _ c (by simpa using hc), arrived_session]
  rfl

end

/-- Settles O30: the three places where a step fetches an instruction. -/
theorem stepRunsTheFetchedInstruction : Obligations.StepRunsTheFetchedInstruction := by
  refine ⟨fun s w rest hact hf hc => ?_, fun s c hact hc => acting_step_tx hact c hc, fun s f q r hact hf hq hd => ?_⟩
  · rw [acting_step_eq_microFetch hact, State.microFetch_idle (by simpa using hf),
      (arrived s).fetchCommand_cons w rest hc]
    rfl
  · have hd' : decodeReply (arrived s).cfg ((arrived s).rxRead (arrived s).cfg.1.tRead).rxBytes = some r := by
      rwa [(arrived s).rxRead_rxBytes _ f q hq, arrived_cfg]
    rw [step_pollRead s hact hf, (arrived s).fetchReply_reply r (hq ▸ List.cons_ne_nil f q) hd',
      arrived_cfg]
    rfl

/-- Settles O26: each transmit state issues its command, and `transmit` says what that changes. -/
theorem transmitStatesSendTheirCommand : Obligations.TransmitStatesSendTheirCommand := by
  refine ⟨fun s => ⟨State.txCommand_pollTx, State.txCommand_resyncTx, State.txCommand_oneshotTx⟩,
    fun s c hact hc => ?_⟩
  have hca : (arrived s).txCommand = some c := by simpa using hc
  rw [acting_step_tx hact c hc, exec_frameInstr]
  refine ⟨_, rfl, ?_⟩
  obtain hf | hf | hf := State.transmits_of_txCommand hc
  · rw [State.issue_pollTx _ _ _ (by simpa using hf) hca]
    simp [hf, State.othersSend_busy]
  · rw [State.issue_resyncTx _ _ _ (by simpa using hf) hca]
    simp [hf, State.othersSend_busy]
  · rw [State.issue_oneshotTx _ _ _ (by simpa using hf) hca]
    simp [hf, State.othersSend_busy]

/-- Settles O18: acceptance in IDLE, for the operation that takes its timestamps. -/
theorem readTelemetryIsAccepted : Obligations.ReadTelemetryIsAccepted :=
  fun s a active hf => congrArg Host.Outcome.next (s.offer_idle .readTelemetryOp a active hf)

/-- Settles O33: the three rows of POLL_CHECK, which no access holds. -/
theorem pollCheckTestsDeadlineThenResync : Obligations.PollCheckTestsDeadlineThenResync := by
  intro s hr hf
  have hfa : (arrived s).fsm = .pollCheck := by simpa using hf
  have row {t : State} (hm : Moves (arrived s) s.nextInput.rspReady t) : step s = .next t :=
    step_of_moves hr (by simp [hf, FsmState.waits]) hm
  refine ⟨fun hd => ?_, fun hd => ⟨fun hre => ?_, fun hre => ?_⟩⟩
  · exact ⟨_, row (.deadline hfa (by simpa using hd)), by simp⟩
  · exact row (.resync hfa (by simpa using hd) (by simpa using hre))
  · simpa [State.iterate] using row (.iterate hfa (by simpa using hd) (by simpa using hre))

/-- Settles O34: the three rows of FLUSH_ENTRY. -/
theorem flushEntryReadsUntilAMiss : Obligations.FlushEntryReadsUntilAMiss := by
  intro s hact hf
  have hfa : (arrived s).fsm = .flushEntry := by simpa using hf
  refine ⟨fun hq => ?_, fun hq ho => ?_, fun hq ho => ?_⟩
  · exact acting_step_of_moves hact (.flushHit hfa hq)
  · exact acting_step_of_moves hact (.flushMissRead hfa hq (by simpa using ho))
  · exact acting_step_of_moves hact (.flushMissOneshot hfa hq (by simpa using ho))

/-- Settles O35: the two rows of RESYNC_FLUSH. -/
theorem resyncFlushEndsTheResync : Obligations.ResyncFlushEndsTheResync := by
  intro s hact hf
  have hfa : (arrived s).fsm = .resyncFlush := by simpa using hf
  refine ⟨fun hq => acting_step_of_moves hact (.resyncHit hfa hq), fun hq => ?_⟩
  rw [acting_step_of_moves hact (.resyncEnd hfa hq)]
  simp [State.endResync, State.iterate, State.setSession, State.setFsm]

/-- Settles O36: the two rows that wait. -/
theorem paceAndSettleWaitTheirTime : Obligations.PaceAndSettleWaitTheirTime := by
  intro s hact
  refine ⟨fun hf => ?_, fun hf => ?_⟩
  · simpa using acting_step_of_moves hact (.pace (by simpa using hf))
  · simpa using acting_step_of_moves hact (.settle (by simpa using hf))

theorem State.waits_eq_false_of_rspValid {s : State} (h : s.rspValid = true) : s.fsm.waits = false := by
  cases hf : s.fsm <;> simp_all [State.rspValid, FsmState.waits]

@[simp] theorem arrived_rspValid (s : State) : (arrived s).rspValid = s.rspValid := by
  simp [State.rspValid]

/-- Settles O40: a terminal state has two rows, told apart by `rsp_ready`. -/
theorem responseIsHeldUntilTaken : Obligations.ResponseIsHeldUntilTaken := by
  intro s hr hv
  have row {t : State} (hm : Moves (arrived s) s.nextInput.rspReady t) : step s = .next t :=
    step_of_moves hr (by simp [State.waits_eq_false_of_rspValid hv]) hm
  refine ⟨fun hk => row (.hold (by simpa using hv) hk), fun hk => ?_⟩
  exact ⟨_, row (.taken (by simpa using hv) hk), by simp⟩

end Sys2Proof.Machine
end

section
/-! Where a step can lead (R140), and what must have held before each ending of a read (R133, R134, R141). -/

namespace Sys2Proof.Machine

open Sys2Proof.Safety

/-- R140: every row leads to a successor, but for the three ways of waiting for the host. -/
theorem Moves.fsm_mem_successors {u t : State} {ready : Bool} (h : Moves u ready t) :
    t.fsm ∈ successors u.fsm ∨ t.fsm = u.fsm ∧ (u.fsm = .idle ∨ u.rspValid = true) := by
  cases h
  case idleWait hf _ => exact Or.inr ⟨rfl, Or.inl hf⟩
  case hold hv _ => exact Or.inr ⟨rfl, Or.inr hv⟩
  case iterate hf _ _ =>
    obtain ⟨hi, -⟩ | hi := u.iterate_cases <;> simp [hf, hi, successors]
  case resyncEnd hf _ =>
    obtain ⟨hi, -⟩ | hi := (u.rxRead 0).iterate_cases <;> simp [hf, hi, successors]
  case taken hv _ =>
    left
    cases hf : u.fsm <;> simp_all [State.rspValid, successors]
  case idleAccept hf _ _ _ | flushHit hf _ | flushMissRead hf _ _ | flushMissOneshot hf _ _ | deadline hf _ |
      resync hf _ _ | request hf | pace hf | readMatch hf _ _ _ _ | readDrop hf _ | resyncSend hf | settle hf |
      resyncHit hf _ | oneshot hf _ _ =>
    left
    simp [hf, successors]

theorem State.iterate_ne_timedOut (u : State) : u.iterate ≠ .timedOut := by
  obtain ⟨hi, -⟩ | hi := u.iterate_cases <;> simp [hi]

/-- R125, R134: TIMEDOUT is entered by the deadline row alone; that row takes no time after its sample. -/
theorem Moves.deadline_of_timedOut {u t : State} {ready : Bool} (h : Moves u ready t) (ht : t.fsm = .timedOut)
    (hu : u.fsm ≠ .timedOut) :
    u.fsm = .pollCheck ∧ elapsed u.cfg t.now u.session.startTs > u.cfg.1.tDeadline := by
  cases h
  case deadline hf hd => exact ⟨hf, hd⟩
  case idleWait | hold => exact absurd ht hu
  case flushHit | resyncHit => exact absurd ((u.rxRead_fsm 0).symm.trans ht) hu
  case iterate => exact absurd ht u.iterate_ne_timedOut
  case resyncEnd => exact absurd ht (u.rxRead 0).iterate_ne_timedOut
  all_goals simp at ht

/-- R129, R133: SUCCEEDED is entered by a matching read alone. -/
theorem Moves.readMatch_of_succeeded {u t : State} {ready : Bool} (h : Moves u ready t) (ht : t.fsm = .succeeded)
    (hu : u.fsm ≠ .succeeded) :
    u.fsm = .pollRead ∧ ∃ (f : RxFrame) (r : Reply), u.env.rxQueue.head? = some f ∧
      decodeReply u.cfg f.1 = some r ∧ r.address = u.session.targetAddr ∧
      t.res = resultsOf r (u.rxRead u.cfg.1.tRead).free ∧ t.session = u.session := by
  cases h
  case readMatch hf r hq hr ha =>
    obtain ⟨f, q, hq⟩ := List.exists_cons_of_ne_nil hq
    rw [u.rxRead_rxBytes _ f q hq] at hr
    exact ⟨hf, f, r, by simp [hq], hr, ha, State.succeed_res _ r, by simp⟩
  case idleWait | hold => exact absurd ht hu
  case flushHit | resyncHit => exact absurd ((u.rxRead_fsm 0).symm.trans ht) hu
  case iterate => exact absurd ht u.iterate_ne_succeeded
  case resyncEnd => exact absurd ht (u.rxRead 0).iterate_ne_succeeded
  all_goals simp at ht

/-- Settles O49: a reset leads to IDLE, a wait nowhere, and a row of R140 to a successor. -/
theorem onlyTableTransitions : Obligations.OnlyTableTransitions := by
  intro s t hst
  obtain ⟨took, hr, rfl⟩ | ⟨-, hp, hw, rfl⟩ | ⟨-, -, hm⟩ := step_cases s t hst
  · exact Or.inr (Or.inl ⟨by simp [hr], by simp⟩)
  · exact Or.inr (Or.inr ⟨by simp, Or.inr (Or.inr ⟨hp, hw⟩)⟩)
  · change Moves (arrived s) _ t at hm
    obtain h | ⟨h, hs⟩ := hm.fsm_mem_successors
    · exact Or.inl (by simpa using h)
    · simp only [arrived_fsm, arrived_rspValid] at h hs
      exact Or.inr (Or.inr ⟨h, hs.imp_right Or.inl⟩)

/-- R140: a step that changes the micro-state, and does not end in IDLE, is a row of the table. -/
theorem moves_of_fsm_ne {s t : State} (hst : step s = .next t) (hidle : t.fsm ≠ .idle) (hne : t.fsm ≠ s.fsm) :
    Moves (arrived s) s.nextInput.rspReady t := by
  obtain ⟨took, -, rfl⟩ | ⟨-, -, -, rfl⟩ | ⟨-, -, hm⟩ := step_cases s t hst
  · exact absurd (by simp) hidle
  · exact absurd (by simp) hne
  · exact hm

/-- Settles O41: the row that enters TIMEDOUT is the deadline test. -/
theorem onlyTheDeadlineTestTimesOut : Obligations.OnlyTheDeadlineTestTimesOut := by
  intro s t hst ht hs
  have hm := moves_of_fsm_ne hst (by simp [ht]) (by rw [ht]; exact hs.symm)
  simpa using hm.deadline_of_timedOut ht (by simpa using hs)

/-- Settles O42: the row that enters SUCCEEDED is the matching read, and a reply carries the guard's bytes. -/
theorem onlyAMatchingReadSucceeds : Obligations.OnlyAMatchingReadSucceeds := by
  intro s t hst ht hs
  have hm := moves_of_fsm_ne hst (by simp [ht]) (by rw [ht]; exact hs.symm)
  obtain ⟨hf, f, r, hq, hr, ha, hres, hsession⟩ := hm.readMatch_of_succeeded ht (by simpa using hs)
  rw [arrived_cfg] at hr
  rw [arrived_session] at ha hsession
  obtain ⟨hrt, hu1⟩ := decodeReply_guard s.cfg f.1 r hr
  exact ⟨by simpa using hf, f, r, hq, hr, ha, by rw [hres]; exact hrt, by rw [hres]; exact hu1,
    by rw [hres]; exact ha, hsession⟩

/-- Settles O45: of the transmit states, the invariant shuts out POLL_TX without `active_req` and ONESHOT_TX with
`read_telemetry`. -/
theorem passiveReadSendsOnlyInAResync : Obligations.PassiveReadSendsOnlyInAResync := by
  intro s t hs hf hop hact hr hst hne
  rw [← arrived_sent_busy s hf] at hne
  obtain ⟨c, hc, -⟩ := (step_sent hst).resolve_left hne
  obtain hp | hp | hp := State.transmits_of_txCommand hc
  · simp [hs.requesting hp] at hact
  · exact hp
  · exact absurd hop (hs.oneshot (Or.inl hp))

end Sys2Proof.Machine
end

section
/-! Runs of one call, and the polling read between two resyncs (R141 (e), R185). -/

namespace Sys2Proof.Safety

open Sys2Proof.Machine

/-- A run goes on from where a shorter one has led. -/
theorem runN_add {j : Nat} (m : Nat) {s u : State} (h : runN j s = .next u) : runN (j + m) s = runN m u := by
  induction j generalizing s with
  | zero =>
    cases h
    rw [Nat.zero_add]
  | succ j ih =>
    obtain ⟨v, hv, hu⟩ := runN_succ_next j s u h
    rw [Nat.add_right_comm, runN_succ (j + m) s v hv, ih hu]

theorem oneCall.fsm_ne_idle {k : Nat} {s : State} (h : oneCall k s) : s.fsm ≠ .idle :=
  h 0 (Nat.zero_le k) s rfl

/-- What is left of one call is one call. -/
theorem oneCall.rest {j m : Nat} {s u : State} (h : oneCall (j + m) s) (hu : runN j s = .next u) : oneCall m u :=
  fun i hi v hv => h (j + i) (Nat.add_le_add_left hi j) v (by rw [runN_add i hu, hv])

theorem oneCall.step {k : Nat} {s u : State} (h : oneCall (k + 1) s) (hu : step s = .next u) : oneCall k u :=
  fun i hi v hv => h (i + 1) (Nat.succ_le_succ hi) v (by rw [runN_succ i s u hu, hv])

/-- R130 to R132: the micro-states after a resync's transmit and before the polling read that follows. -/
def beforeRead : List FsmState := [.resyncSettle, .resyncFlush, .pollTx, .pollPace]

/-- R140: the only way out of them, but for a reset, is the polling read. -/
theorem beforeRead_step {s t : State} (hst : Machine.step s = .next t) (hs : s.fsm ∈ beforeRead)
    (ht : t.fsm ≠ .idle) : t.fsm ∈ beforeRead ∨ t.fsm = .pollRead := by
  obtain h | ⟨-, h⟩ | ⟨h, -⟩ := onlyTableTransitions s t hst
  · cases hf : s.fsm <;> simp_all [beforeRead, successors]
  · exact absurd h ht
  · exact Or.inl (h ▸ hs)

/-- R185: a call that leaves them has passed through the polling read. -/
theorem pollRead_of_leaves_beforeRead {k : Nat} {s t : State} (hrun : runN k s = .next t) (hcall : oneCall k s)
    (hs : s.fsm ∈ beforeRead) (ht : t.fsm ∉ beforeRead) :
    ∃ j, j ≤ k ∧ ∃ u, runN j s = .next u ∧ u.fsm = .pollRead := by
  induction k generalizing s with
  | zero =>
    cases hrun
    exact absurd hs ht
  | succ k ih =>
    obtain ⟨v, hv, hrest⟩ := runN_succ_next k s t hrun
    have hcall' := hcall.step hv
    obtain hb | hb := beforeRead_step hv hs hcall'.fsm_ne_idle
    · obtain ⟨j, hj, u, hu, hread⟩ := ih hrest hcall' hb
      exact ⟨j + 1, Nat.succ_le_succ hj, u, by rw [runN_succ j s v hv, hu], hread⟩
    · exact ⟨1, Nat.succ_le_succ (Nat.zero_le k), v, runN_succ 0 s v hv, hb⟩

/-- Settles O56: from RESYNC_SETTLE the next resync lies behind the polling read. -/
theorem pollingReadSeparatesResyncs : Obligations.PollingReadSeparatesResyncs := by
  intro s t k hs hrun ht hcall ⟨i, hi, v, hv, hsettle⟩
  obtain ⟨m, rfl⟩ := Nat.exists_eq_add_of_le hi
  rw [Nat.add_assoc] at hrun hcall
  have hrest : runN (m + 1) v = .next t := by rw [← runN_add (m + 1) hv, hrun]
  obtain ⟨j, hj, u, hu, hread⟩ := pollRead_of_leaves_beforeRead hrest (hcall.rest hv) (by simp [hsettle, beforeRead])
    (by simp [ht, beforeRead])
  have hne : j ≠ m + 1 := by
    rintro rfl
    rw [hrest] at hu
    cases hu
    simp [ht] at hread
  exact ⟨i + j, by omega, u, by rw [runN_add j hv, hu], hread⟩

end Sys2Proof.Safety
end

section
/-! How many resyncs one call triggers (R126, R132, R141 (f), C9): counted in unbounded time, each lies more than `T_RESYNC`
ticks behind the one before, and all lie within `T_DEADLINE` ticks of the start. -/

namespace Sys2Proof.Safety

open Sys2Proof.Machine

theorem runN_time_le {k : Nat} {s t : State} (h : runN k s = .next t) : s.env.time ≤ t.env.time := by
  induction k generalizing s with
  | zero => cases h; exact le_rfl
  | succ k ih =>
    obtain ⟨u, hu, hrest⟩ := runN_succ_next k s t h
    exact (Nat.le_add_right _ _).trans ((timeNeverRunsBack s u hu).trans (ih hrest))

/-- R142: within the range of the timebase, the elapsed time since a sample taken at `T` is the time since `T`. -/
theorem elapsed_now (u : State) (T : Nat) (hle : T ≤ u.env.time) (hlt : u.env.time < T + 2 ^ u.cfg.1.nowW) :
    elapsed u.cfg u.now (T % 2 ^ u.cfg.1.nowW) = u.env.time - T := by
  have h := elapsed_eq u.cfg T (u.env.time - T) (by omega)
  rwa [Nat.add_sub_cancel' hle] at h

/-- In a call that started at tick `T`, with `n` resyncs behind it or under way: `L` is the tick the last finished resync
stamped (the start, if there is none), and outside a resync it is what `last_resync_ts` holds. -/
structure ResyncClock (T n : Nat) (s : State) : Prop where
  startTs : s.session.startTs = T % 2 ^ s.cfg.1.nowW
  within : n * (s.cfg.1.tResync + 1) ≤ s.cfg.1.tDeadline
  stamp : ∃ L, T + n * (s.cfg.1.tResync + 1) ≤ L ∧ L ≤ s.env.time ∧
    (s.fsm.source ≠ some .resyncing → s.session.lastResyncTs = L % 2 ^ s.cfg.1.nowW)

/-- R124: a call starts with both timestamps at its start. -/
theorem ResyncClock.of_fresh {s : State} (hstart : s.session.startTs = s.now)
    (hlast : s.session.lastResyncTs = s.now) : ResyncClock s.env.time 0 s where
  startTs := hstart
  within := by simp
  stamp := ⟨s.env.time, by simp, le_rfl, fun _ => hlast⟩

/-- What keeps the session and sets no clock back keeps the count, unless it leaves a resync. -/
theorem ResyncClock.of_session_eq {T n : Nat} {u t : State} (h : ResyncClock T n u) (hc : t.cfg = u.cfg)
    (hs : t.session = u.session) (htime : u.env.time ≤ t.env.time)
    (hsrc : u.fsm.source = some .resyncing → t.fsm.source = some .resyncing) : ResyncClock T n t where
  startTs := by rw [hs, hc, h.startTs]
  within := by rw [hc]; exact h.within
  stamp := by
    obtain ⟨L, hL, hLt, hlast⟩ := h.stamp
    rw [hc, hs]
    exact ⟨L, hL, hLt.trans htime, fun ht => hlast fun hu => ht (hsrc hu)⟩

/-- R132: the end of a resync stamps the present tick. -/
theorem ResyncClock.endResync {T n : Nat} {u : State} (h : ResyncClock T n u) : ResyncClock T n u.endResync where
  startTs := h.startTs
  within := h.within
  stamp := by
    obtain ⟨L, hL, hLt, -⟩ := h.stamp
    exact ⟨u.env.time, hL.trans hLt, le_rfl, fun _ => rfl⟩

/-- R126, R125: where a resync is triggered, `T_RESYNC` has been exceeded since the last one, and `T_DEADLINE` has not been
since the start. -/
theorem ResyncClock.trigger {T n : Nat} {u : State} (h : ResyncClock T n u) (hf : u.fsm = .pollCheck)
    (hd : ¬ elapsed u.cfg u.now u.session.startTs > u.cfg.1.tDeadline)
    (hr : elapsed u.cfg u.now u.session.lastResyncTs > u.cfg.1.tResync)
    (hlt : u.env.time < T + 2 ^ u.cfg.1.nowW) : ResyncClock T (n + 1) (u.setFsm .resyncTx) := by
  obtain ⟨L, hL, hLt, hlast⟩ := h.stamp
  have hTL : T ≤ L := (Nat.le_add_right _ _).trans hL
  rw [h.startTs, elapsed_now u T (hTL.trans hLt) hlt] at hd
  rw [hlast (by simp [hf, FsmState.source]), elapsed_now u L hLt (by omega)] at hr
  have hn : (n + 1) * (u.cfg.1.tResync + 1) = n * (u.cfg.1.tResync + 1) + (u.cfg.1.tResync + 1) := Nat.succ_mul _ _
  exact {
    startTs := h.startTs
    within := by simp only [State.setFsm_cfg]; omega
    stamp := ⟨u.env.time, by simp only [State.setFsm_cfg]; omega, le_rfl, by simp [FsmState.source]⟩ }

/-- R126: the resyncs triggered by a step from `s` to `t`. -/
def triggered (s t : State) : Nat := if s.fsm = .pollCheck ∧ t.fsm = .resyncTx then 1 else 0

theorem triggered_eq_zero {s t : State} (h : ¬ (s.fsm = .pollCheck ∧ t.fsm = .resyncTx)) : triggered s t = 0 := if_neg h

theorem resyncs_succ (k : Nat) {s t : State} (h : step s = .next t) :
    resyncs (k + 1) s = triggered s t + resyncs k t := by
  simp [resyncs, h, triggered]

/-- R140: the count goes on with every row of the table within a call. -/
theorem ResyncClock.moves {T n : Nat} {u t : State} {ready : Bool} (h : ResyncClock T n u) (hm : Moves u ready t)
    (hu : u.fsm ≠ .idle) (ht : t.fsm ≠ .idle) (hlt : u.env.time < T + 2 ^ u.cfg.1.nowW) :
    ResyncClock T (n + triggered u t) t := by
  have htime := hm.time_le
  cases hm
  case idleWait hf _ | idleAccept hf _ _ _ => exact absurd hf hu
  case taken => exact absurd rfl ht
  case resync hf hd hr =>
    simpa [triggered, hf] using h.trigger hf hd hr hlt
  case resyncEnd hf hq =>
    rw [triggered_eq_zero (by simp [hf])]
    have hread : ResyncClock T n (u.rxRead 0) :=
      h.of_session_eq (by simp) (by simp) (u.le_rxRead_time 0) (by simp)
    exact hread.endResync
  case hold hv _ =>
    rw [triggered_eq_zero (by rintro ⟨hc, hx⟩; simp [hc] at hx)]
    exact h
  case iterate hf _ _ =>
    rw [triggered_eq_zero (by obtain ⟨hi, -⟩ | hi := u.iterate_cases <;> simp [hi])]
    exact h.of_session_eq rfl rfl htime (by simp [hf, FsmState.source])
  case flushHit hf _ | flushMissRead hf _ _ | flushMissOneshot hf _ _ | deadline hf _ | request hf | pace hf |
      readMatch hf _ _ _ _ | readDrop hf _ | resyncSend hf | settle hf | resyncHit hf _ | oneshot hf _ _ =>
    rw [triggered_eq_zero (by simp [hf])]
    exact h.of_session_eq (by simp) (by simp) htime (by simp [hf, FsmState.source])

/-- The count goes on with every step within a call. -/
theorem ResyncClock.step {T n : Nat} {s t : State} (h : ResyncClock T n s) (hst : step s = .next t)
    (hs : s.fsm ≠ .idle) (ht : t.fsm ≠ .idle) (hlt : t.env.time < T + 2 ^ s.cfg.1.nowW) :
    ResyncClock T (n + triggered s t) t := by
  have ha : ResyncClock T n (arrived s) := h.of_session_eq (by simp) (by simp) (by simp) (by simp)
  obtain ⟨took, -, rfl⟩ | ⟨-, -, hw, rfl⟩ | ⟨-, -, hm⟩ := step_cases s t hst
  · exact absurd (by simp) ht
  · rw [triggered_eq_zero (by rintro ⟨hc, -⟩; simp [hc, FsmState.waits] at hw)]
    exact ha
  · have hcount : triggered (arrived s) t = triggered s t := by simp [triggered]
    rw [← hcount]
    refine ha.moves hm (by simpa using hs) ht ?_
    rw [arrived_cfg]
    exact lt_of_le_of_lt hm.time_le hlt

/-- R141 (f): the resyncs of a run within one call, each with its `T_RESYNC` and one tick, fit into `T_DEADLINE`. -/
theorem ResyncClock.resyncs_le {T n k : Nat} {s t : State} (h : ResyncClock T n s) (hcall : oneCall k s)
    (hrun : runN k s = .next t) (hlt : t.env.time < T + 2 ^ s.cfg.1.nowW) :
    (n + resyncs k s) * (s.cfg.1.tResync + 1) ≤ s.cfg.1.tDeadline := by
  induction k generalizing n s with
  | zero => exact h.within
  | succ k ih =>
    obtain ⟨u, hu, hrest⟩ := runN_succ_next k s t hrun
    have hcall' := hcall.step hu
    have hc := configurationIsConstant s u hu
    have hu' := h.step hu hcall.fsm_ne_idle hcall'.fsm_ne_idle (lt_of_le_of_lt (runN_time_le hrest) hlt)
    rw [resyncs_succ k hu, ← Nat.add_assoc, ← hc]
    exact ih hu' hcall' hrest (by rwa [hc])

/-- Settles O55: `n` times `T_RESYNC + 1` ticks fit into `T_DEADLINE`, so `n` times `T_RESYNC` fit into one tick less. -/
theorem resyncsOfOneCallAreBounded : Obligations.ResyncsOfOneCallAreBounded := by
  intro s t k _ _ hstart hlast hcall hrun hlt
  have h := (ResyncClock.of_fresh hstart hlast).resyncs_le hcall hrun hlt
  obtain ⟨-, -, -, -, ⟨-, -, hpos, -⟩, -⟩ := s.cfg.2
  rw [Nat.zero_add, Nat.mul_succ] at h
  rw [Nat.le_div_iff_mul_le hpos]
  cases hn : resyncs k s with
  | zero => simp
  | succ n => rw [hn] at h; omega

end Sys2Proof.Safety
end

section
/-! The entry flush and the one-shot operations on a silent link (R122, R135 to R137, R141 (a), R144). -/

namespace Sys2Proof.Machine

open Sys2Proof.Safety

/-! What a step leaves of the course of inputs. -/

theorem Moves.inputs_eq {u t : State} {ready : Bool} (h : Moves u ready t) : t.env.inputs = u.env.inputs := by
  cases h <;> simp

@[simp] theorem State.accessTook_inputs (s : State) : s.accessTook.env.inputs = s.env.inputs := by
  obtain h | ⟨c, -, h⟩ | ⟨-, h⟩ := s.accessTook_eq <;> rw [h] <;> rfl

@[simp] theorem State.resetEvent_inputs (s : State) (took : Bool) :
    (s.resetEvent took).env.inputs = s.env.inputs := by
  rw [s.resetEvent_env]; split <;> simp

/-- Each step takes one input. -/
theorem step_inputs {s t : State} (h : step s = .next t) : t.env.inputs = s.env.inputs.tail := by
  rw [← arrived_inputs]
  obtain ⟨took, -, rfl⟩ | ⟨-, -, -, rfl⟩ | ⟨-, -, hm⟩ := step_cases s t h
  · exact (arrived s).resetEvent_inputs took
  · rfl
  · exact hm.inputs_eq

end Sys2Proof.Machine

namespace Sys2Proof.Safety

open Sys2Proof.Machine

theorem silent.acting {s : State} (h : silent s.nextInput) : acting s := by
  obtain ⟨hr, -, hp⟩ := h
  exact ⟨hr, hp⟩

/-- R184: a silent input leaves the queue of a busy engine alone. -/
theorem silent.rxQueue_busy {s : State} (h : silent s.nextInput) (hf : s.fsm ≠ .idle) :
    (Safety.arrived s).env.rxQueue = s.env.rxQueue := by
  obtain ⟨-, ha, -⟩ := h
  rw [arrived_rxQueue_busy s hf, ha, List.append_nil]

theorem silentFor.head {n : Nat} {s : State} (h : silentFor (n + 1) s) : silent s.nextInput := by
  obtain ⟨hlen, hall⟩ := h
  obtain ⟨i, rest, hi⟩ := List.exists_cons_of_length_pos (Nat.lt_of_lt_of_le n.succ_pos hlen)
  rw [hi] at hall
  simpa [State.nextInput, hi] using hall i (by simp)

theorem silentFor.mono {m n : Nat} {s : State} (h : silentFor n s) (hmn : m ≤ n) : silentFor m s := by
  obtain ⟨hlen, hall⟩ := h
  exact ⟨hmn.trans hlen, fun i hi => hall i (List.take_subset_take_left _ hmn hi)⟩

theorem silentFor.of_drop {k m : Nat} {s t : State} (h : silentFor (k + m) s)
    (ht : t.env.inputs = s.env.inputs.drop k) : silentFor m t := by
  obtain ⟨hlen, hall⟩ := h
  rw [silentFor, ht]
  refine ⟨by rw [List.length_drop]; omega, fun i hi => hall i ?_⟩
  rw [List.take_drop] at hi
  exact List.mem_of_mem_drop hi

theorem silentFor.step {n : Nat} {s t : State} (h : silentFor (n + 1) s) (hst : step s = .next t) : silentFor n t :=
  silentFor.of_drop (k := 1) (by rwa [Nat.add_comm]) (by rw [step_inputs hst, List.drop_one])

/-- R122: what `k` reads of a flush leave, on a silent link: the first `k` frames are gone, and nothing else of it. -/
structure Flushed (k : Nat) (s t : State) : Prop where
  session : t.session = s.session
  cfg : t.cfg = s.cfg
  sent : t.env.sent = s.env.sent
  rxQueue : t.env.rxQueue = s.env.rxQueue.drop k
  inputs : t.env.inputs = s.env.inputs.drop k

theorem Flushed.refl (s : State) : Flushed 0 s s := ⟨rfl, rfl, rfl, rfl, rfl⟩

theorem Flushed.trans {j k : Nat} {s t u : State} (h : Flushed j s t) (h' : Flushed k t u) : Flushed (j + k) s u where
  session := h'.session.trans h.session
  cfg := h'.cfg.trans h.cfg
  sent := h'.sent.trans h.sent
  rxQueue := by rw [h'.rxQueue, h.rxQueue, List.drop_drop]
  inputs := by rw [h'.inputs, h.inputs, List.drop_drop]

/-- R122: one read, whether it hits or misses. -/
theorem Flushed.of_rxRead {s : State} (h : silent s.nextInput) (hf : s.fsm ≠ .idle) :
    Flushed 1 s ((arrived s).rxRead 0) where
  session := by simp
  cfg := by simp
  sent := by rw [State.rxRead_sent, arrived_sent_busy s hf]
  rxQueue := by rw [State.rxRead_rxQueue, h.rxQueue_busy hf, List.drop_one]
  inputs := by simp

theorem Flushed.setFsm {k : Nat} {s t : State} (h : Flushed k s t) (f : FsmState) : Flushed k s (t.setFsm f) :=
  ⟨h.session, h.cfg, h.sent, h.rxQueue, h.inputs⟩

/-- R122, R143: `k` frames are read away in `k` steps. -/
theorem runN_flush_hits {k : Nat} {s : State} (hf : s.fsm = .flushEntry) (hk : k ≤ s.env.rxQueue.length)
    (hsilent : silentFor k s) : ∃ t, runN k s = .next t ∧ t.fsm = .flushEntry ∧ Flushed k s t := by
  induction k generalizing s with
  | zero => exact ⟨s, rfl, hf, .refl s⟩
  | succ k ih =>
    have hbusy : s.fsm ≠ .idle := by simp [hf]
    have hread := Flushed.of_rxRead hsilent.head hbusy
    have hne : (arrived s).env.rxQueue ≠ [] := by
      rw [hsilent.head.rxQueue_busy hbusy]
      exact List.ne_nil_of_length_pos (by omega)
    have hst : step s = .next ((arrived s).rxRead 0) :=
      acting_step_of_moves hsilent.head.acting (.flushHit (by simpa using hf) hne)
    obtain ⟨t, hrun, htf, hflushed⟩ := ih (s := (arrived s).rxRead 0) (by simpa using hf)
      (by rw [hread.rxQueue, List.length_drop]; omega) (hsilent.step hst)
    exact ⟨t, by rw [runN_succ k s _ hst, hrun], htf, by rw [Nat.add_comm]; exact hread.trans hflushed⟩

/-- R143: where the entry flush goes on. -/
def afterFlush (op : HostOp) : FsmState := if op = .readTelemetryOp then .pollCheck else .oneshotTx

/-- R143: on the miss the flush is over. -/
theorem step_flush_miss {s : State} (hf : s.fsm = .flushEntry) (hq : s.env.rxQueue = [])
    (hsilent : silent s.nextInput) :
    ∃ t, step s = .next t ∧ t.fsm = afterFlush s.session.curOp ∧ Flushed 1 s t := by
  have hbusy : s.fsm ≠ .idle := by simp [hf]
  have hq' : (arrived s).env.rxQueue = [] := by rw [hsilent.rxQueue_busy hbusy, hq]
  have hread := (Flushed.of_rxRead hsilent hbusy).setFsm (afterFlush s.session.curOp)
  refine ⟨_, acting_step_of_moves hsilent.acting ?_, rfl, hread⟩
  unfold afterFlush
  split
  · next ho => exact .flushMissRead (by simpa using hf) hq' (by simpa using ho)
  · next ho => exact .flushMissOneshot (by simpa using hf) hq' (by simpa using ho)

/-- R122, R143: N frames and the miss, N+1 steps. -/
theorem runN_flush {s : State} (hf : s.fsm = .flushEntry) (hsilent : silentFor (s.env.rxQueue.length + 1) s) :
    ∃ t, runN (s.env.rxQueue.length + 1) s = .next t ∧ t.fsm = afterFlush s.session.curOp ∧
      Flushed (s.env.rxQueue.length + 1) s t := by
  obtain ⟨u, hrun, huf, hu⟩ := runN_flush_hits hf le_rfl (hsilent.mono (Nat.le_succ _))
  obtain ⟨t, hst, htf, ht⟩ := step_flush_miss huf (by rw [hu.rxQueue, List.drop_length])
    (hsilent.of_drop hu.inputs).head
  exact ⟨t, by rw [runN_add 1 hrun, runN_succ 0 u t hst]; rfl, by rw [htf, hu.session], hu.trans ht⟩

/-- Settles O38: N hits, then the miss. -/
theorem flushIssuesOneReadMoreThanFrames : Obligations.FlushIssuesOneReadMoreThanFrames := by
  intro s hf hsilent
  refine ⟨fun k hk => ?_, ?_⟩
  · obtain ⟨t, hrun, htf, ht⟩ := runN_flush_hits hf hk (hsilent.mono (by omega))
    exact ⟨t, hrun, htf, ht.rxQueue, ht.session⟩
  · obtain ⟨t, hrun, htf, ht⟩ := runN_flush hf hsilent
    exact ⟨t, hrun, by simp [ht.rxQueue], ht.session, ht.sent, htf⟩

theorem ne_readTelemetryOp_of_cmdOf {op : HostOp} {c : FrameCmd} (h : cmdOf op = some c) : op ≠ .readTelemetryOp := by
  rintro rfl
  cases h

/-- R121: a waiting word of a one-shot operation is accepted in one step; no timestamp is written. -/
theorem step_accept_oneshot {s : State} (hact : acting s) (hf : s.fsm = .idle) {op : HostOp} {a : Byte} {active : Bool}
    {rest : List CommandWord} (hc : s.env.commands = commandWord op a active :: rest)
    (hop : op ≠ .readTelemetryOp) :
    ∃ t, step s = .next t ∧ t.fsm = .flushEntry ∧ t.cfg = s.cfg ∧
      t.session = { s.session with curOp := op, targetAddr := a, activeReq := active } ∧
      t.env.rxQueue = (arrived s).env.rxQueue ∧ t.env.sent = (arrived s).env.sent := by
  have hm := Moves.idleAccept (ready := s.nextInput.rspReady) (u := arrived s) (by simpa using hf)
    (commandWord op a active) (rest ++ s.nextInput.command.toList) (by simp [hc])
  rw [cmdOp_commandWord, cmdAddr_commandWord, cmdActive_commandWord] at hm
  exact ⟨_, acting_step_of_moves hact hm, rfl, by simp, by simp [hop], rfl, rfl⟩

/-- R144: the step of ONESHOT_TX. -/
theorem step_oneshotTx {s : State} (hact : acting s) (hf : s.fsm = .oneshotTx) {c : FrameCmd}
    (hc : cmdOf s.session.curOp = some c) :
    step s = .next (((arrived s).transmit c s.session.targetAddr .done).freeRes) := by
  simpa using acting_step_of_moves hact (.oneshot (by simpa using hf) c (by simpa using hc))

/-- Settles O39: acceptance, the flush of N frames and its miss, and the transmission: 1, N+1 and 1 steps. -/
theorem oneShotRunsToSent : Obligations.OneShotRunsToSent := by
  intro s op c a active rest hf hcommands hc hsilent
  have hop := ne_readTelemetryOp_of_cmdOf hc
  obtain ⟨s₁, hst₁, hf₁, hcfg₁, hsession₁, hq₁, hsent₁⟩ :=
    step_accept_oneshot hsilent.head.acting hf hcommands hop
  rw [← hq₁] at hsilent ⊢
  have hsilent₁ : silentFor ((s₁.env.rxQueue.length + 1) + 1) s₁ := hsilent.step hst₁
  obtain ⟨s₂, hrun₂, hf₂, h₂⟩ := runN_flush hf₁ (hsilent₁.mono (Nat.le_succ _))
  have hsilent₂ : silentFor 1 s₂ := hsilent₁.of_drop h₂.inputs
  have hsession₂ : s₂.session = { s.session with curOp := op, targetAddr := a, activeReq := active } :=
    h₂.session.trans hsession₁
  have htx₂ : s₂.fsm = .oneshotTx := by rw [hf₂, hsession₁]; exact if_neg hop
  have hst₃ := step_oneshotTx hsilent₂.head.acting htx₂ (by rw [hsession₂]; exact hc)
  have hbusy₂ : s₂.fsm ≠ .idle := by simp [htx₂]
  have hframe : encodeFrame s₂.cfg c s₂.session.targetAddr = encodeFrame s.cfg c a := by
    rw [h₂.cfg, hcfg₁, hsession₂]
  refine ⟨((arrived s₂).transmit c s₂.session.targetAddr .done).freeRes, ?_, rfl, rfl, ?_, ?_, ?_, ?_, ?_⟩
  · rw [runN_succ _ s s₁ hst₁, runN_add 1 hrun₂, runN_succ 0 s₂ _ hst₃]
    rfl
  · simpa using hframe
  · have hsent : (arrived s₂).env.sent = (arrived s).env.sent := by
      rw [arrived_sent_busy s₂ hbusy₂, h₂.sent, hsent₁]
    simp only [State.freeRes_env, State.transmit_env, hsent, arrived_cfg, hframe]
  · have hq : (arrived s₂).env.rxQueue = [] := by
      rw [hsilent₂.head.rxQueue_busy hbusy₂, h₂.rxQueue]
      exact List.drop_eq_nil_of_le (Nat.le_succ _)
    exact hq
  · simp [hsession₂]
  · simp [hsession₂]

end Sys2Proof.Safety
end

section
/-! `read_telemetry` on a silent link (R145, R139 (e), R142): every round of the polling loop takes at least a tick, so the
loop cannot go round for ever without leaving the range of the timebase. -/

namespace Sys2Proof.Safety

open Sys2Proof.Machine

/-- R123, R140: the micro-states of the polling loop, resyncs included. -/
def readLoop : List FsmState :=
  [.pollCheck, .resyncTx, .resyncSettle, .resyncFlush, .pollTx, .pollPace, .pollRead]

/-- A `read_telemetry` on a silent link, before its end: its entry flush, or the polling loop with nothing to read. -/
inductive SilentRead (s : State) : Prop
  | flushing (hf : s.fsm = .flushEntry) (hop : s.session.curOp = .readTelemetryOp)
  | looping (hf : s.fsm ∈ readLoop) (hq : s.env.rxQueue = [])

/-- How many steps a silent read can take, at most, from here to the end of a round, each queued frame apart. -/
def roundRank : FsmState → Nat
  | .flushEntry => 7
  | .pollCheck => 6
  | .resyncTx => 5
  | .resyncSettle => 4
  | .resyncFlush => 3
  | .pollTx => 2
  | .pollPace => 1
  | .pollRead => 0
  | .idle => 0
  | .oneshotTx => 0
  | .succeeded => 0
  | .timedOut => 0
  | .done => 0

/-- The ticks of a round that have passed and count only at its end, so that a round takes its pace and its read at once. -/
def roundTicks (s : State) : Nat := if s.fsm = .pollRead then s.cfg.1.tPace else 0

/-- A bound on the steps before the tick `goal`: a round has at most seven, and each round brings `goal` a tick nearer. -/
def stepBound (goal : Nat) (s : State) : Nat :=
  7 * (goal + roundTicks s - s.env.time) + roundRank s.fsm + s.env.rxQueue.length

theorem stepBound_of_ne_pollRead (goal : Nat) {s : State} {f : FsmState} (hf : s.fsm = f) (hne : f ≠ .pollRead) :
    stepBound goal s = 7 * (goal - s.env.time) + roundRank f + s.env.rxQueue.length := by
  subst hf
  simp [stepBound, roundTicks, hne]

theorem stepBound_pollRead (goal : Nat) {s : State} (hf : s.fsm = .pollRead) :
    stepBound goal s = 7 * (goal + s.cfg.1.tPace - s.env.time) + s.env.rxQueue.length := by
  simp [stepBound, roundTicks, hf, roundRank]

theorem goal_le_time_of_stepBound {goal : Nat} {s : State} (h : stepBound goal s = 0) : goal ≤ s.env.time := by
  simp only [stepBound] at h
  omega

/-- What a silent step makes of a read: a timeout, the tick `goal`, or a read with fewer steps before it. -/
def SilentProgress (goal : Nat) (u t : State) : Prop :=
  t.fsm = .timedOut ∨ goal ≤ t.env.time ∨ SilentRead t ∧ stepBound goal t < stepBound goal u

/-- The micro-states with a rank between the entry flush and the polling read are those of the loop. -/
theorem mem_readLoop_of_roundRank {f g : FsmState} (h : 0 < roundRank g ∧ roundRank g < roundRank f) :
    g ∈ readLoop := by
  have hle : roundRank f ≤ 7 := by cases f <;> decide
  cases g
  case flushEntry => exact absurd h.2 (Nat.not_lt.mpr hle)
  all_goals simp_all [roundRank, readLoop]

/-- A row within a round, to a lower rank, is progress. -/
theorem SilentProgress.of_rank_lt {goal : Nat} {u t : State} (f g : FsmState) (hu : u.fsm = f) (ht : t.fsm = g)
    (hrank : 0 < roundRank g ∧ roundRank g < roundRank f) (hq : t.env.rxQueue = [])
    (htime : u.env.time ≤ t.env.time) : SilentProgress goal u t := by
  have hloop := mem_readLoop_of_roundRank hrank
  obtain ⟨hg, hlt⟩ := hrank
  have hgne : g ≠ .pollRead := by rintro rfl; exact absurd hg (by decide)
  have hfne : f ≠ .pollRead := by rintro rfl; exact absurd hlt (Nat.not_lt_zero _)
  refine Or.inr (Or.inr ⟨.looping (ht ▸ hloop) hq, ?_⟩)
  rw [stepBound_of_ne_pollRead goal hu hfne, stepBound_of_ne_pollRead goal ht hgne, hq, List.length_nil]
  omega

/-- R143: in the entry flush a read takes a frame, or ends the flush. -/
theorem silentProgress_flushEntry (goal : Nat) (u : State) (ready : Bool) (hf : u.fsm = .flushEntry)
    (hop : u.session.curOp = .readTelemetryOp) : ∃ t, Moves u ready t ∧ SilentProgress goal u t := by
  cases hq : u.env.rxQueue with
  | nil =>
    have hq' : ((u.rxRead 0).setFsm .pollCheck).env.rxQueue = [] := by simp [hq]
    exact ⟨_, .flushMissRead hf hq hop,
      .of_rank_lt .flushEntry .pollCheck hf rfl (by decide) hq' (u.le_rxRead_time 0)⟩
  | cons f q =>
    refine ⟨_, .flushHit hf (by simp [hq]), Or.inr (Or.inr ⟨.flushing (by simpa using hf) (by simpa using hop), ?_⟩)⟩
    have hf' : (u.rxRead 0).fsm = .flushEntry := (u.rxRead_fsm 0).trans hf
    rw [stepBound_of_ne_pollRead goal hf (by decide), stepBound_of_ne_pollRead goal hf' (by decide)]
    simp [hq]

/-- R125 to R127: POLL_CHECK reports the timeout or goes on with the round. -/
theorem silentProgress_pollCheck (goal : Nat) (u : State) (ready : Bool) (hf : u.fsm = .pollCheck)
    (hq : u.env.rxQueue = []) : ∃ t, Moves u ready t ∧ SilentProgress goal u t := by
  by_cases hd : elapsed u.cfg u.now u.session.startTs > u.cfg.1.tDeadline
  · exact ⟨_, .deadline hf hd, Or.inl rfl⟩
  · by_cases hr : elapsed u.cfg u.now u.session.lastResyncTs > u.cfg.1.tResync
    · exact ⟨_, .resync hf hd hr, .of_rank_lt .pollCheck .resyncTx hf rfl (by decide) hq le_rfl⟩
    · refine ⟨_, .iterate hf hd hr, ?_⟩
      obtain ⟨hi, -⟩ | hi := u.iterate_cases
      · exact .of_rank_lt .pollCheck .pollTx hf hi (by decide) hq le_rfl
      · exact .of_rank_lt .pollCheck .pollPace hf hi (by decide) hq le_rfl

/-- R132: with nothing to read the resync ends. -/
theorem silentProgress_resyncFlush (goal : Nat) (u : State) (ready : Bool) (hf : u.fsm = .resyncFlush)
    (hq : u.env.rxQueue = []) : ∃ t, Moves u ready t ∧ SilentProgress goal u t := by
  refine ⟨_, .resyncEnd hf hq, ?_⟩
  have hq' : (u.rxRead 0).endResync.env.rxQueue = [] := by simp [hq]
  obtain ⟨hi, -⟩ | hi := (u.rxRead 0).iterate_cases
  · exact .of_rank_lt .resyncFlush .pollTx hf hi (by decide) hq' (u.le_rxRead_time 0)
  · exact .of_rank_lt .resyncFlush .pollPace hf hi (by decide) hq' (u.le_rxRead_time 0)

/-- R128: the ticks of the pace are kept for the end of the round. -/
theorem silentProgress_pollPace (goal : Nat) (u : State) (ready : Bool) (hf : u.fsm = .pollPace)
    (hq : u.env.rxQueue = []) : ∃ t, Moves u ready t ∧ SilentProgress goal u t := by
  refine ⟨_, .pace hf, Or.inr (Or.inr ⟨.looping (by simp [readLoop]) hq, ?_⟩)⟩
  rw [stepBound_of_ne_pollRead goal hf (by decide), stepBound_pollRead goal rfl]
  simp only [State.setFsm_cfg, State.setFsm_env, State.advance_cfg, State.advance_env, roundRank]
  omega

/-- R129: the miss ends the round, which has taken `T_PACE + T_READ` ticks at least. -/
theorem silentProgress_pollRead (goal : Nat) (u : State) (ready : Bool) (hf : u.fsm = .pollRead)
    (hq : u.env.rxQueue = []) (hpos : 0 < u.cfg.1.tPace + u.cfg.1.tRead) :
    ∃ t, Moves u ready t ∧ SilentProgress goal u t := by
  refine ⟨_, .readDrop hf (Or.inl hq), Or.inr ?_⟩
  rw [stepBound_pollRead goal hf, stepBound_of_ne_pollRead goal (State.setFsm_fsm _ _) (by decide)]
  simp only [State.setFsm_env, State.rxRead_time, hq, if_true, State.rxRead_rxQueue, List.tail_nil, List.length_nil,
    roundRank]
  by_cases hgoal : goal ≤ u.env.time + u.cfg.1.tRead
  · exact Or.inl hgoal
  · exact Or.inr ⟨.looping (by simp [readLoop]) (by simp [hq]), by omega⟩

/-- R145: whatever micro-state a silent read is in, its row is progress. -/
theorem SilentRead.moves {u : State} (h : SilentRead u) (hpos : 0 < u.cfg.1.tPace + u.cfg.1.tRead) (goal : Nat)
    (ready : Bool) : ∃ t, Moves u ready t ∧ SilentProgress goal u t := by
  cases h with
  | flushing hf hop => exact silentProgress_flushEntry goal u ready hf hop
  | looping hf hq =>
    simp only [readLoop, List.mem_cons, List.not_mem_nil, or_false] at hf
    obtain hf | hf | hf | hf | hf | hf | hf := hf
    · exact silentProgress_pollCheck goal u ready hf hq
    · exact ⟨_, .resyncSend hf, .of_rank_lt .resyncTx .resyncSettle hf rfl (by decide) hq le_rfl⟩
    · exact ⟨_, .settle hf, .of_rank_lt .resyncSettle .resyncFlush hf rfl (by decide) hq (Nat.le_add_right _ _)⟩
    · exact silentProgress_resyncFlush goal u ready hf hq
    · exact ⟨_, .request hf, .of_rank_lt .pollTx .pollPace hf rfl (by decide) hq le_rfl⟩
    · exact silentProgress_pollPace goal u ready hf hq
    · exact silentProgress_pollRead goal u ready hf hq hpos

theorem SilentRead.fsm_ne_idle {s : State} (h : SilentRead s) : s.fsm ≠ .idle := by
  cases h with
  | flushing hf _ => simp [hf]
  | looping hf _ =>
    intro hidle
    simp [hidle, readLoop] at hf

/-- A silent input brings a read nothing but time. -/
theorem SilentRead.arrived {s : State} (h : SilentRead s) (hsilent : silent s.nextInput) :
    SilentRead (arrived s) := by
  have hq := hsilent.rxQueue_busy h.fsm_ne_idle
  cases h with
  | flushing hf hop => exact .flushing (by simpa using hf) (by simpa using hop)
  | looping hf hnil => exact .looping (by simpa using hf) (hq.trans hnil)

theorem SilentRead.stepBound_arrived {s : State} (h : SilentRead s) (hsilent : silent s.nextInput) (goal : Nat) :
    stepBound goal (Safety.arrived s) ≤ stepBound goal s := by
  have hticks : roundTicks (Safety.arrived s) = roundTicks s := by simp [roundTicks]
  simp only [stepBound, hsilent.rxQueue_busy h.fsm_ne_idle, hticks, arrived_fsm, arrived_time]
  omega

/-- R139 (e), R145: a silent step of a read is progress. -/
theorem SilentRead.step {s : State} (h : SilentRead s) (hsilent : silent s.nextInput)
    (hpos : 0 < s.cfg.1.tPace + s.cfg.1.tRead) (goal : Nat) : ∃ t, step s = .next t ∧ SilentProgress goal s t := by
  obtain ⟨t, hm, hp⟩ := (h.arrived hsilent).moves (by simpa using hpos) goal s.nextInput.rspReady
  exact ⟨t, acting_step_of_moves hsilent.acting hm,
    hp.imp_right (Or.imp_right (And.imp_right fun hlt => hlt.trans_le (h.stepBound_arrived hsilent goal)))⟩

/-- R145: a silent read is in TIMEDOUT, or `goal` is reached, within the bound. -/
theorem SilentRead.ends {goal n : Nat} {s : State} (h : SilentRead s) (hpos : 0 < s.cfg.1.tPace + s.cfg.1.tRead)
    (hbound : stepBound goal s ≤ n) (hsilent : silentFor n s) :
    ∃ (k : Nat) (t : State), k ≤ n ∧ runN k s = .next t ∧ (t.fsm = .timedOut ∨ goal ≤ t.env.time) := by
  induction n generalizing s with
  | zero => exact ⟨0, s, le_rfl, rfl, Or.inr (goal_le_time_of_stepBound (Nat.le_zero.mp hbound))⟩
  | succ n ih =>
    obtain ⟨u, hst, hprogress⟩ := h.step hsilent.head hpos goal
    have stop (hend : u.fsm = .timedOut ∨ goal ≤ u.env.time) :
        ∃ (k : Nat) (t : State), k ≤ n + 1 ∧ runN k s = .next t ∧ (t.fsm = .timedOut ∨ goal ≤ t.env.time) :=
      ⟨1, u, Nat.le_add_left 1 n, runN_succ 0 s u hst, hend⟩
    obtain htimeout | hgoal | ⟨hu, hlt⟩ := hprogress
    · exact stop (Or.inl htimeout)
    · exact stop (Or.inr hgoal)
    · obtain ⟨k, t, hk, hrun, hend⟩ := ih hu (by rwa [configurationIsConstant s u hst]) (by omega) (hsilent.step hst)
      exact ⟨k + 1, t, Nat.succ_le_succ hk, by rw [runN_succ k s u hst, hrun], hend⟩

/-- Settles O57: with `goal` the tick at which the call has lasted 2^NOW_W ticks, the bound depends on the state alone. -/
theorem silentLinkTimesOut : Obligations.SilentLinkTimesOut := by
  intro s hop hf hpos
  let goal := s.env.time + 2 ^ s.cfg.1.nowW - elapsed s.cfg s.now s.session.startTs
  refine ⟨stepBound goal s, fun inputs hlen hall => ?_⟩
  have hread : SilentRead { s with env := { s.env with inputs := inputs } } := by
    obtain hf | ⟨hf, hq⟩ := hf
    · exact .flushing hf hop
    · exact .looping (by simp [hf, readLoop]) hq
  obtain ⟨k, t, hk, hrun, hend⟩ := hread.ends (goal := goal) hpos le_rfl
    ⟨hlen, fun i hi => hall i (List.mem_of_mem_take hi)⟩
  exact ⟨k, t, hk, hrun, hend.imp_right Nat.le_add_of_sub_le⟩

end Sys2Proof.Safety
end

section
/-! A reset in mid-operation: what the outstanding access did outside the engine (R180, R181, U16). -/

namespace Sys2Proof.Machine

open Sys2Proof.Safety

/-! R120: only a busy micro-state has an access, and none both transmits and reads. -/

theorem State.fsm_ne_idle_of_txCommand {s : State} {c : FrameCmd} (h : s.txCommand = some c) : s.fsm ≠ .idle := by
  intro hf
  simp [State.txCommand_idle hf] at h

theorem State.fsm_ne_idle_of_reads {s : State} (h : s.fsm.reads = true) : s.fsm ≠ .idle := by
  intro hf
  simp [hf, FsmState.reads] at h

theorem State.txCommand_of_reads {s : State} (h : s.fsm.reads = true) : s.txCommand = none := by
  unfold State.txCommand
  cases hf : s.fsm
  case pollTx | resyncTx | oneshotTx => simp [hf, FsmState.reads] at h
  all_goals rfl

/-! R181, U16: the environment after a reset at which the outstanding access took effect: a transmit, a read, or none. -/

theorem State.resetEvent_env_of_txCommand {s : State} {c : FrameCmd} (h : s.txCommand = some c) :
    (s.resetEvent true).env =
      { s.env with sent := s.env.sent ++ [encodeFrame s.cfg c s.session.targetAddr] } := by
  simp [State.resetEvent_env, State.accessTook, h]

theorem State.resetEvent_env_of_reads {s : State} (h : s.fsm.reads = true) :
    (s.resetEvent true).env = { s.env with rxQueue := s.env.rxQueue.tail } := by
  simp [State.resetEvent_env, State.accessTook, State.txCommand_of_reads h, h]

theorem State.resetEvent_env_of_no_access {s : State} (hc : s.txCommand = none) (hr : s.fsm.reads = false) :
    (s.resetEvent true).env = s.env := by
  simp [State.resetEvent_env, State.accessTook, hc, hr]

/-- R180: a step with a reset is the reset event, once the step's input is in. -/
theorem step_of_reset {s : State} {took : Bool} (h : s.nextInput.reset = some took) :
    step s = .next ((arrived s).resetEvent took) := by
  simp [step, State.fetch, h, arrived]

/-- Settles O59: the step is the reset event, and its environment is the arrived one but for the one access outstanding.
A state with an access is busy, so the channel holds what it held and what that access sent. -/
theorem resetEventAbandonsTheOperation : Obligations.ResetEventAbandonsTheOperation := by
  intro s took hreset
  refine ⟨(arrived s).resetEvent took, step_of_reset hreset, by simp, by simp [State.rspValid],
    by simp [State.cmdReady], by simp, State.resetEvent_time _ _, State.resetEvent_commands _ _, ?_, ?_, ?_, ?_⟩
  · rintro rfl
    rfl
  · rintro c rfl hc
    have hsent := arrived_sent_busy s (State.fsm_ne_idle_of_txCommand hc)
    rw [State.resetEvent_env_of_txCommand ((arrived_txCommand s).trans hc), hsent, arrived_cfg, arrived_session]
    exact ⟨rfl, rfl⟩
  · rintro rfl hreads
    have hsent := arrived_sent_busy s (State.fsm_ne_idle_of_reads hreads)
    rw [State.resetEvent_env_of_reads (by rwa [arrived_fsm])]
    exact ⟨hsent, rfl⟩
  · rintro rfl hc hreads
    exact State.resetEvent_env_of_no_access (by rwa [arrived_txCommand]) (by rwa [arrived_fsm])

end Sys2Proof.Machine
end

section
/-! Where nothing happens: a frame command that the micro-state does not transmit, a reply outside POLL_READ, IDLE with no
command word (R140, R164, R121; entries 14 and 15). -/

namespace Sys2Proof.Machine

open Sys2Proof.Safety

/-- R140, entry 14: only the micro-state's own command is issued. -/
theorem State.issue_of_txCommand_ne {s : State} {c : FrameCmd} (h : s.txCommand ≠ some c) (a : Byte) :
    s.issue c a = s :=
  if_neg h

/-- R122, R164, entry 15: only POLL_READ looks at a reply. -/
theorem execTelemetryReply_of_ne_pollRead {s : State} (h : s.fsm ≠ .pollRead) (r : Reply) :
    execTelemetryReply r s = .next s :=
  if_neg h

/-- Settles O25: a frame command is issued, and issuing one that the micro-state does not transmit changes nothing. -/
theorem frameCommandsElsewhereDoNothing : Obligations.FrameCommandsElsewhereDoNothing := by
  intro s c a hc
  rw [exec_frameInstr, State.issue_of_txCommand_ne hc]

/-- Settles O29: the instruction is the engine's look at the reply, which only POLL_READ takes. -/
theorem repliesElsewhereAreNoEvent : Obligations.RepliesElsewhereAreNoEvent :=
  fun _ r hf => execTelemetryReply_of_ne_pollRead hf r

/-- Settles O31: IDLE has no access or wait that could be pending, so the step is its row for an empty command port. -/
theorem idleWaitsForACommand : Obligations.IdleWaitsForACommand := by
  intro s hreset hf hcommands
  have hpending : (s.nextInput.pending && s.fsm.waits) = false := by simp [hf, FsmState.waits]
  exact step_of_moves hreset hpending (.idleWait ((arrived_fsm s).trans hf) hcommands)

end Sys2Proof.Machine
end
